-- ==== Sys2Proof/Word.lean ====
section
/-! DEFINITION. The word types of the block (00_scope R8, R9): bit 0 is the least significant bit of a value. -/

namespace Sys2Proof

/-- `u8` (00_scope R9). -/
abbrev Byte := BitVec 8

/-- `u16`; also an `i16`, held as its two's-complement bits and read with `BitVec.toInt` (00_scope R9). -/
abbrev Half := BitVec 16

/-- `u32`; also an `i32`, held as its two's-complement bits and read with `BitVec.toInt` (00_scope R9). -/
abbrev Word := BitVec 32

/-- `Timestamp`: an unsigned integer of `TS_BITS` bits (00_scope R9).
`TS_BITS` is a parameter, so the value is a `Nat` and its bound `< 2^TS_BITS` is checked by `Instr.wellFormed`
and kept by the machine's invariant.
DESIGN CHOICE, safe: notes/assumptions/15.md. -/
abbrev Timestamp := Nat

end Sys2Proof
end

