-- ==== Sys2Proof/Config.lean ====
section
/-! DEFINITION. The implementation parameters of 00_scope R5: the fixed ones as constants, the OPEN ones as the
fields of `Params`, which the machine holds as plain data, so that a statement about every state is a statement
about every value of an OPEN parameter (notes/assumptions/5.md). -/

namespace Sys2Proof

/-- `SPORT_SOF`, the start marker (R5, R14). -/
def sportSof : Byte := 0x7E#8
/-- `SPORT_ESC`, the escape marker (R5, R14). -/
def sportEsc : Byte := 0x7D#8
/-- `SPORT_FRAME_SIZE`, the de-stuffed bytes after the start marker (R5). -/
def sportFrameSize : Nat := 9
/-- `CRSF_SYNC` (R5). -/
def crsfSync : Byte := 0xC8#8
/-- `CRSF_MAX_FRAME`, in bytes (R5). -/
def crsfMaxFrame : Nat := 64
/-- `CRC8_POLY` (R5). -/
def crc8Poly : Byte := 0xD5#8
/-- `CRC8_INIT` (R5, D9). PRESUMED by the spec itself ("from general knowledge"), unsafe: notes/assumptions/16.md. -/
def crc8Init : Byte := 0x00#8
/-- `ID_GPS_COORD`, the one identifier the source fixes (R5). -/
def idGpsCoord : Half := 0x0800#16
/-- `N_DECODERS`, the decoder instances in one block (R5, R256). -/
def nDecoders : Nat := 1

/-- `SPORT_CRC_VARIANT` (R5, D6): which checksum the decoder uses. -/
inductive CrcVariant
  /-- The source's pseudocode (R102); the default. -/
  | masked
  /-- The reading of the source's prose (R103). -/
  | endAroundCarry
  deriving DecidableEq, Repr

/-- `BATT_CAP_BYTES` (R5, D11): how many bytes the battery `capacity` takes on the wire. -/
inductive BattCap
  /-- Three bytes, the default. -/
  | three
  /-- Four bytes. -/
  | four
  deriving DecidableEq, Repr

/-- The OPEN parameters of 00_scope R5.
They are fixed before the first transaction and no transaction changes them. -/
structure Params where
  /-- `SPORT_CRC_VARIANT`. -/
  crcVariant : CrcVariant
  /-- `START_RESTART_CLEARS_ESC`. -/
  restartClearsEsc : Bool
  /-- `FC_ADDR`, the heartbeat's payload byte. -/
  fcAddr : Byte
  /-- `BATT_CAP_BYTES`. -/
  battCap : BattCap
  /-- `STALENESS_TIMEOUT`, in clock ticks (R7). -/
  stalenessTimeout : Nat
  /-- `TS_BITS`, the width of a timestamp. -/
  tsBits : Nat
  /-- `ID_GPS_ALT`. -/
  idGpsAlt : Half
  /-- `ID_GPS_SPEED`. -/
  idGpsSpeed : Half
  /-- `ID_GPS_HEADING`. -/
  idGpsHeading : Half
  /-- `ID_VOLTAGE`. -/
  idVoltage : Half
  /-- `ID_CURRENT`. -/
  idCurrent : Half
  /-- `ID_FUEL`. -/
  idFuel : Half
  /-- `ID_BARO_ALT`. -/
  idBaroAlt : Half
  /-- `ID_VARIO`. -/
  idVario : Half
  deriving DecidableEq, Repr

/-- The defaults of 00_scope R5.
`STALENESS_TIMEOUT` has no default in the spec: 500000, the value of its test vectors, is a DESIGN CHOICE, unsafe
(notes/assumptions/5.md).
The identifiers and `FC_ADDR` are the spec's own defaults "from general knowledge": PRESUMED, unsafe
(notes/assumptions/16.md). -/
def Params.default : Params where
  crcVariant := .masked
  restartClearsEsc := false
  fcAddr := 0xC8#8
  battCap := .three
  stalenessTimeout := 500000
  tsBits := 32
  idGpsAlt := 0x0820#16
  idGpsSpeed := 0x0830#16
  idGpsHeading := 0x0840#16
  idVoltage := 0x0210#16
  idCurrent := 0x0200#16
  idFuel := 0x0600#16
  idBaroAlt := 0x0100#16
  idVario := 0x0110#16

/-- The nine `ID_*` parameters, in the order of 30_encoding R82. -/
def Params.ids (c : Params) : List Half :=
  [idGpsCoord, c.idGpsAlt, c.idGpsSpeed, c.idGpsHeading, c.idVoltage, c.idCurrent, c.idFuel, c.idBaroAlt, c.idVario]

end Sys2Proof
end

