-- ==== Sys2Proof/Syntax.lean ====
section
/-! DEFINITION. What the host can present to the block: the operand records of 10_state R40 and R41, and `Instr`,
one constructor per row of spec/opcode_table.json. -/

namespace Sys2Proof

/-- `SensorPacket` (10_state R40). -/
structure SensorPacket where
  sensorId : Byte
  frameId : Byte
  dataId : Half
  rawValue : Word
  deriving DecidableEq, Repr

/-- `Payload`, the tagged union of 10_state R41. Signed fields are two's-complement bits. -/
inductive Payload
  | gps (latitude longitude : Word) (groundspeed heading altitude : Half) (satellites : Byte)
  | vario (verticalSpeed : Half)
  | battery (voltage current : Half) (capacity : Word) (remaining : Byte)
  | baroAlt (altitude verticalSpeed : Half)
  deriving DecidableEq, Repr

/-- The four snapshot categories (00_scope R14, 10_state R30). -/
inductive Category
  | gps
  | vario
  | battery
  | baro
  deriving DecidableEq, Repr

/-- The rows of format `sport_key`, the cases of `PB` (30_encoding R74). -/
inductive SportRow
  | idleStart
  | idleDiscard
  | startRestart
  | startEsc
  | startFirst
  | dataEsc
  | dataStorePlain
  | dataStoreEscaped
  | dstateInvalid
  deriving DecidableEq, Repr

/-- The rows of format `sport_close` (30_encoding R75). -/
inductive CloseRow
  | ok
  | bad
  deriving DecidableEq, Repr

/-- The rows of format `crsf_type`, the cases of `ENC` (30_encoding R85). -/
inductive CrsfRow
  | gps
  | vario
  | battery
  | baro
  | heartbeatType
  | refused
  deriving DecidableEq, Repr

/-- The rows of format `bld_category`, the cases of `BLD` (30_encoding R85). -/
inductive BldRow
  | gps
  | vario
  | battery
  | baro
  | refused
  deriving DecidableEq, Repr

/-- The rows of format `sport_data_id`, the cases of `UPD` (30_encoding R82). -/
inductive UpdRow
  | gpsCoord
  | gpsAlt
  | gpsSpeed
  | gpsHeading
  | voltage
  | current
  | fuel
  | baroAlt
  | vario
  | other
  deriving DecidableEq, Repr

/-- One constructor per row of spec/opcode_table.json.

A constructor of format `command` is the transaction as the host issues it (30_encoding R70, R71).
A constructor of another format is the case of that transaction with that key (00_scope R13): it carries every key
bit that the row's mask leaves free and every other operand of the transaction.
DESIGN CHOICE, safe: notes/assumptions/3.md. -/
inductive Instr
  /-- `PB`, op 0: `process_byte` (R100). -/
  | pb (byte : Byte)
  /-- `ENC`, op 1: `encode` (R141 to R148). -/
  | enc (frameType : Byte) (payload : Payload)
  /-- `HB`, op 2: `encode_heartbeat` (R147). -/
  | hb
  /-- `UPD`, op 3: `update` (R170). -/
  | upd (packet : SensorPacket) (now : Timestamp)
  /-- `BLD`, op 4: `build_outbound` (R211 to R216). -/
  | bld (category : Byte) (now : Timestamp)
  /-- `CONV`, op 5: `convert` (R218). -/
  | conv (packet : SensorPacket) (now : Timestamp)
  /-- `RESET`, op 6 (R271). -/
  | reset
  /-- `RESERVED`, op 7, refused (R87). -/
  | reserved
  /-- `IDLE.START`: `PB` of 0x7E in `Idle` (R104). -/
  | idleStart (esc : Bool)
  /-- `IDLE.DISCARD`: `PB` of any other byte in `Idle` (R105). -/
  | idleDiscard (esc : Bool) (byte : Byte)
  /-- `START.RESTART`: `PB` of 0x7E in `Start` (R106). -/
  | startRestart (esc : Bool)
  /-- `START.ESC`: `PB` of 0x7D in `Start` (R107). -/
  | startEsc (esc : Bool)
  /-- `START.FIRST`: `PB` of any other byte in `Start` (R108). -/
  | startFirst (esc : Bool) (byte : Byte)
  /-- `DATA.ESC`: `PB` of 0x7D in `Data`, no escape pending (R109). -/
  | dataEsc
  /-- `DATA.STORE.PLAIN`: `PB` of any other byte in `Data`, no escape pending (R110). -/
  | dataStorePlain (byte : Byte)
  /-- `DATA.STORE.ESCAPED`: `PB` of any byte in `Data`, an escape pending (R111). -/
  | dataStoreEscaped (byte : Byte)
  /-- `DSTATE.INVALID`: `PB` with `dstate` = 3 (R76). -/
  | dstateInvalid (esc : Bool) (byte : Byte)
  /-- `FRAME.CLOSE.OK`: the close with a matching checksum (R112). -/
  | frameCloseOk
  /-- `FRAME.CLOSE.BAD`: the close with a checksum mismatch (R113). -/
  | frameCloseBad
  /-- `ENC.GPS`: `ENC` with frame type 0x02 (R143). -/
  | encGps (payload : Payload)
  /-- `ENC.VARIO`: `ENC` with frame type 0x07 (R144). -/
  | encVario (payload : Payload)
  /-- `ENC.BATTERY`: `ENC` with frame type 0x08 (R145). -/
  | encBattery (payload : Payload)
  /-- `ENC.BARO`: `ENC` with frame type 0x09 (R146). -/
  | encBaro (payload : Payload)
  /-- `ENC.HEARTBEAT_TYPE`: `ENC` with frame type 0x0B, refused (R148). -/
  | encHeartbeatType (payload : Payload)
  /-- `ENC.REFUSED`: `ENC` with any other frame type, refused (R148). -/
  | encRefused (frameType : Byte) (payload : Payload)
  /-- `BLD.GPS`: `BLD` with category 0x02 (R212). -/
  | bldGps (now : Timestamp)
  /-- `BLD.VARIO`: `BLD` with category 0x07 (R213). -/
  | bldVario (now : Timestamp)
  /-- `BLD.BATTERY`: `BLD` with category 0x08 (R214). -/
  | bldBattery (now : Timestamp)
  /-- `BLD.BARO`: `BLD` with category 0x09 (R215). -/
  | bldBaro (now : Timestamp)
  /-- `BLD.REFUSED`: `BLD` with any other category, refused (R216). -/
  | bldRefused (category : Byte) (now : Timestamp)
  /-- `UPD.GPS_COORD`: `UPD` of `ID_GPS_COORD` (R172). -/
  | updGpsCoord (sensorId frameId : Byte) (raw : Word) (now : Timestamp)
  /-- `UPD.GPS_ALT`: `UPD` of `ID_GPS_ALT` (R173). -/
  | updGpsAlt (sensorId frameId : Byte) (raw : Word) (now : Timestamp)
  /-- `UPD.GPS_SPEED`: `UPD` of `ID_GPS_SPEED` (R174). -/
  | updGpsSpeed (sensorId frameId : Byte) (raw : Word) (now : Timestamp)
  /-- `UPD.GPS_HEADING`: `UPD` of `ID_GPS_HEADING` (R175). -/
  | updGpsHeading (sensorId frameId : Byte) (raw : Word) (now : Timestamp)
  /-- `UPD.VOLTAGE`: `UPD` of `ID_VOLTAGE` (R176). -/
  | updVoltage (sensorId frameId : Byte) (raw : Word) (now : Timestamp)
  /-- `UPD.CURRENT`: `UPD` of `ID_CURRENT` (R177). -/
  | updCurrent (sensorId frameId : Byte) (raw : Word) (now : Timestamp)
  /-- `UPD.FUEL`: `UPD` of `ID_FUEL` (R178). -/
  | updFuel (sensorId frameId : Byte) (raw : Word) (now : Timestamp)
  /-- `UPD.BARO_ALT`: `UPD` of `ID_BARO_ALT` (R179). -/
  | updBaroAlt (sensorId frameId : Byte) (raw : Word) (now : Timestamp)
  /-- `UPD.VARIO`: `UPD` of `ID_VARIO` (R180). -/
  | updVario (sensorId frameId : Byte) (raw : Word) (now : Timestamp)
  /-- `UPD.OTHER`: `UPD` of any `data_id` that is no identifier (R181). -/
  | updOther (packet : SensorPacket) (now : Timestamp)
  deriving DecidableEq, Repr

end Sys2Proof
end

