-- ==== Sys2Proof/WellFormed.lean ====
section
/-! DEFINITION. Which instructions an encoding can hold: a timestamp fits `TS_BITS` (30_encoding R71), and a case
row holds only the keys that select it, those of the rows listed before it left out (30_encoding R72, R74, R82, R85). -/

namespace Sys2Proof

/-- `now` is a `TS_BITS`-bit value (00_scope R9, 30_encoding R71). -/
def Params.fits (c : Params) (now : Timestamp) : Bool := decide (now < 2 ^ c.tsBits)

/-- The four frame types that have a payload (30_encoding R84, R85). -/
def payloadTypes : List Byte := [0x02#8, 0x07#8, 0x08#8, 0x09#8]

/-- The checks of an instruction under the parameters `c`. -/
def Instr.wellFormed (c : Params) : Instr → Bool
  | .pb _ => true
  | .enc _ _ => true
  | .hb => true
  | .upd _ now => c.fits now
  | .bld _ now => c.fits now
  | .conv _ now => c.fits now
  | .reset => true
  | .reserved => true
  | .idleStart _ => true
  | .idleDiscard _ b => b != sportSof
  | .startRestart _ => true
  | .startEsc _ => true
  | .startFirst _ b => b != sportSof && b != sportEsc
  | .dataEsc => true
  | .dataStorePlain b => b != sportEsc
  | .dataStoreEscaped _ => true
  | .dstateInvalid _ _ => true
  | .frameCloseOk => true
  | .frameCloseBad => true
  | .encGps _ => true
  | .encVario _ => true
  | .encBattery _ => true
  | .encBaro _ => true
  | .encHeartbeatType _ => true
  | .encRefused ft _ => !payloadTypes.contains ft && ft != 0x0B#8
  | .bldGps now => c.fits now
  | .bldVario now => c.fits now
  | .bldBattery now => c.fits now
  | .bldBaro now => c.fits now
  | .bldRefused cat now => !payloadTypes.contains cat && c.fits now
  | .updGpsCoord _ _ _ now => c.fits now
  | .updGpsAlt _ _ _ now => c.fits now
  | .updGpsSpeed _ _ _ now => c.fits now
  | .updGpsHeading _ _ _ now => c.fits now
  | .updVoltage _ _ _ now => c.fits now
  | .updCurrent _ _ _ now => c.fits now
  | .updFuel _ _ _ now => c.fits now
  | .updBaroAlt _ _ _ now => c.fits now
  | .updVario _ _ _ now => c.fits now
  | .updOther p now => !c.ids.contains p.dataId && c.fits now

end Sys2Proof
end

