-- ==== Sys2Proof/Decode.lean ====
section
/-! DEFINITION. The opcode tables of 30_encoding as rows of match and mask, the decoder from a transaction's bytes
to `Instr`, and the encoder.

The spec gives a transaction a 3-bit selector and operand fields of known widths (30_encoding R70, R71) and no byte
layout. The layout is the model's: a header byte, then the key, then the operands, each least significant byte first.
The header of a command is its `op`; the header of a case row is its format's number times 8.
DESIGN CHOICE, safe: notes/assumptions/2.md. -/

namespace Sys2Proof

/-! ## Byte order of a transaction's operands -/

/-- Two bytes, least significant first (`LE_2`, 00_scope R11). -/
def le16 (b0 b1 : Byte) : Half := b1 ++ b0

/-- Four bytes, least significant first (`LE_4`, 00_scope R11). -/
def le32 (b0 b1 b2 b3 : Byte) : Word := b3 ++ b2 ++ b1 ++ b0

/-- Byte `k` of a value, byte 0 the least significant. -/
def byteAt {w : Nat} (v : BitVec w) (k : Nat) : Byte := v.extractLsb' (8 * k) 8

/-- The unsigned value of a byte sequence taken least significant byte first (`LE_N`, 00_scope R11). -/
def leNat : List Byte → Nat
  | [] => 0
  | b :: bs => b.toNat + 256 * leNat bs

/-- The `n` bytes of a value, least significant first. -/
def leBytes : Nat → Nat → List Byte
  | 0, _ => []
  | n + 1, v => BitVec.ofNat 8 v :: leBytes n (v / 256)

/-- How many bytes a `TS_BITS`-bit timestamp takes in a transaction. -/
def Params.tsLen (c : Params) : Nat := (c.tsBits + 7) / 8

/-! ## Key tables -/

/-- One row of an opcode table: it takes the keys with `key & mask = match` (30_encoding R72). -/
structure KeyRow (α : Type) (w : Nat) where
  row : α
  mtch : BitVec w
  mask : BitVec w
  deriving Repr

/-- The row whose `key & mask = match` comes first in the table (30_encoding R72). -/
def selectRow {α : Type} {w : Nat} (rows : List (KeyRow α w)) (key : BitVec w) : Option α :=
  (rows.find? fun r => key &&& r.mask == r.mtch).map (·.row)

/-- Format `sport_key` (30_encoding R74). -/
def sportKeyTable : List (KeyRow SportRow 11) :=
  [⟨.idleStart, 0x07E#11, 0x6FF#11⟩, ⟨.idleDiscard, 0x000#11, 0x600#11⟩,
   ⟨.startRestart, 0x27E#11, 0x6FF#11⟩, ⟨.startEsc, 0x27D#11, 0x6FF#11⟩, ⟨.startFirst, 0x200#11, 0x600#11⟩,
   ⟨.dataEsc, 0x47D#11, 0x7FF#11⟩, ⟨.dataStorePlain, 0x400#11, 0x700#11⟩, ⟨.dataStoreEscaped, 0x500#11, 0x700#11⟩,
   ⟨.dstateInvalid, 0x600#11, 0x600#11⟩]

/-- Format `sport_close`, key `(full, match)` (30_encoding R75). -/
def sportCloseTable : List (KeyRow CloseRow 2) := [⟨.ok, 0x3#2, 0x3#2⟩, ⟨.bad, 0x2#2, 0x3#2⟩]

/-- Format `crsf_type` (30_encoding R85). -/
def crsfTypeTable : List (KeyRow CrsfRow 8) :=
  [⟨.gps, 0x02#8, 0xFF#8⟩, ⟨.vario, 0x07#8, 0xFF#8⟩, ⟨.battery, 0x08#8, 0xFF#8⟩, ⟨.baro, 0x09#8, 0xFF#8⟩,
   ⟨.heartbeatType, 0x0B#8, 0xFF#8⟩, ⟨.refused, 0x00#8, 0x00#8⟩]

/-- Format `bld_category` (30_encoding R85). -/
def bldCategoryTable : List (KeyRow BldRow 8) :=
  [⟨.gps, 0x02#8, 0xFF#8⟩, ⟨.vario, 0x07#8, 0xFF#8⟩, ⟨.battery, 0x08#8, 0xFF#8⟩, ⟨.baro, 0x09#8, 0xFF#8⟩,
   ⟨.refused, 0x00#8, 0x00#8⟩]

/-- Format `sport_data_id`: each match value is the parameter of 30_encoding R82. -/
def sportDataIdTable (c : Params) : List (KeyRow UpdRow 16) :=
  [⟨.gpsCoord, idGpsCoord, 0xFFFF#16⟩, ⟨.gpsAlt, c.idGpsAlt, 0xFFFF#16⟩, ⟨.gpsSpeed, c.idGpsSpeed, 0xFFFF#16⟩,
   ⟨.gpsHeading, c.idGpsHeading, 0xFFFF#16⟩, ⟨.voltage, c.idVoltage, 0xFFFF#16⟩, ⟨.current, c.idCurrent, 0xFFFF#16⟩,
   ⟨.fuel, c.idFuel, 0xFFFF#16⟩, ⟨.baroAlt, c.idBaroAlt, 0xFFFF#16⟩, ⟨.vario, c.idVario, 0xFFFF#16⟩,
   ⟨.other, 0x0000#16, 0x0000#16⟩]

/-- The case of a decoder key. The nine rows cover every key (30_encoding R72), so the default is never taken. -/
def selectSport (key : BitVec 11) : SportRow := (selectRow sportKeyTable key).getD .dstateInvalid

/-- The close case of a `(full, match)` key; none where `full` = 0, where no close happens (30_encoding R72, R75). -/
def selectClose (key : BitVec 2) : Option CloseRow := selectRow sportCloseTable key

/-- The case of an `ENC` frame type. The rows cover every key, so the default is never taken. -/
def selectCrsf (frameType : Byte) : CrsfRow := (selectRow crsfTypeTable frameType).getD .refused

/-- The case of a `BLD` category. The rows cover every key, so the default is never taken. -/
def selectBld (category : Byte) : BldRow := (selectRow bldCategoryTable category).getD .refused

/-- The case of an `UPD` identifier. The rows cover every key, so the default is never taken. -/
def selectUpd (c : Params) (dataId : Half) : UpdRow := (selectRow (sportDataIdTable c) dataId).getD .other

/-- The decoder key `key[10:9] = dstate`, `key[8] = esc`, `key[7:0] = byte` (30_encoding R73). -/
def decoderKey (dstate : BitVec 2) (esc : Bool) (byte : Byte) : BitVec 11 := dstate ++ BitVec.ofBool esc ++ byte

/-- The case instruction of a decoder key, its free bits as operands (30_encoding R74). -/
def sportInstr (key : BitVec 11) : Instr :=
  let esc := key.getLsbD 8
  let byte : Byte := key.setWidth 8
  match selectSport key with
  | .idleStart => .idleStart esc
  | .idleDiscard => .idleDiscard esc byte
  | .startRestart => .startRestart esc
  | .startEsc => .startEsc esc
  | .startFirst => .startFirst esc byte
  | .dataEsc => .dataEsc
  | .dataStorePlain => .dataStorePlain byte
  | .dataStoreEscaped => .dataStoreEscaped byte
  | .dstateInvalid => .dstateInvalid esc byte

/-- The case instruction of an `ENC` frame type (30_encoding R85). -/
def crsfInstr (frameType : Byte) (p : Payload) : Instr :=
  match selectCrsf frameType with
  | .gps => .encGps p
  | .vario => .encVario p
  | .battery => .encBattery p
  | .baro => .encBaro p
  | .heartbeatType => .encHeartbeatType p
  | .refused => .encRefused frameType p

/-- The case instruction of a `BLD` category (30_encoding R85). -/
def bldInstr (category : Byte) (now : Timestamp) : Instr :=
  match selectBld category with
  | .gps => .bldGps now
  | .vario => .bldVario now
  | .battery => .bldBattery now
  | .baro => .bldBaro now
  | .refused => .bldRefused category now

/-- The case instruction of an `UPD` packet (30_encoding R82). -/
def updInstr (c : Params) (p : SensorPacket) (now : Timestamp) : Instr :=
  match selectUpd c p.dataId with
  | .gpsCoord => .updGpsCoord p.sensorId p.frameId p.rawValue now
  | .gpsAlt => .updGpsAlt p.sensorId p.frameId p.rawValue now
  | .gpsSpeed => .updGpsSpeed p.sensorId p.frameId p.rawValue now
  | .gpsHeading => .updGpsHeading p.sensorId p.frameId p.rawValue now
  | .voltage => .updVoltage p.sensorId p.frameId p.rawValue now
  | .current => .updCurrent p.sensorId p.frameId p.rawValue now
  | .fuel => .updFuel p.sensorId p.frameId p.rawValue now
  | .baroAlt => .updBaroAlt p.sensorId p.frameId p.rawValue now
  | .vario => .updVario p.sensorId p.frameId p.rawValue now
  | .other => .updOther p now

/-- What the spec asks of a configuration before the first transaction: the nine identifiers pairwise distinct
(00_scope R6) and the timeout below `2^TS_BITS` (00_scope R7). -/
def Params.legal (c : Params) : Bool := decide c.ids.Nodup && decide (c.stalenessTimeout < 2 ^ c.tsBits)

/-! ## Decoding -/

/-- Why a word of bytes is no transaction. The layout is the model's, so these reasons are too
(notes/assumptions/14.md). -/
inductive DecodeError
  /-- The word ends before its operands do. -/
  | truncated
  /-- The word goes on after its operands. -/
  | trailing
  /-- The header byte is no command and no format. -/
  | unknownHeader
  /-- The payload variant is not one of the four of 10_state R41. -/
  | unknownVariant
  /-- The bytes of `now` hold a value that does not fit `TS_BITS`. -/
  | timestampTooWide
  /-- The two bytes of a decoder key hold a value that does not fit 11 bits. -/
  | keyTooWide
  /-- A close key whose `full` bit is 0, which selects no close (30_encoding R72). -/
  | closeNotFull
  deriving DecidableEq, Repr

/-- The six formats of opcode_table.json (30_encoding R92). -/
inductive KeyFormat
  | command
  | sportKey
  | sportClose
  | crsfType
  | bldCategory
  | sportDataId
  deriving DecidableEq, Repr

/-- The header byte of a format: its number times 8. A command adds its `op`. -/
def KeyFormat.header : KeyFormat → Byte
  | .command => 0x00#8
  | .sportKey => 0x08#8
  | .sportClose => 0x10#8
  | .crsfType => 0x18#8
  | .bldCategory => 0x20#8
  | .sportDataId => 0x28#8

/-- What a parser answers: what it read and the bytes after it. -/
abbrev Parsed (α : Type) := Except DecodeError (α × List Byte)

/-- A `SensorPacket`, 64 bits (10_state R40, 30_encoding R71). -/
def parsePacket : List Byte → Parsed SensorPacket
  | s :: f :: d0 :: d1 :: r0 :: r1 :: r2 :: r3 :: t => .ok (⟨s, f, le16 d0 d1, le32 r0 r1 r2 r3⟩, t)
  | _ => .error .truncated

/-- A `Payload`: the variant's number in the order of 10_state R41, then its fields. -/
def parsePayload : List Byte → Parsed Payload
  | [] => .error .truncated
  | v :: t =>
    match v.toNat, t with
    | 0, a0 :: a1 :: a2 :: a3 :: o0 :: o1 :: o2 :: o3 :: g0 :: g1 :: h0 :: h1 :: l0 :: l1 :: n :: t =>
      .ok (.gps (le32 a0 a1 a2 a3) (le32 o0 o1 o2 o3) (le16 g0 g1) (le16 h0 h1) (le16 l0 l1) n, t)
    | 1, v0 :: v1 :: t => .ok (.vario (le16 v0 v1), t)
    | 2, v0 :: v1 :: c0 :: c1 :: q0 :: q1 :: q2 :: q3 :: r :: t =>
      .ok (.battery (le16 v0 v1) (le16 c0 c1) (le32 q0 q1 q2 q3) r, t)
    | 3, a0 :: a1 :: v0 :: v1 :: t => .ok (.baroAlt (le16 a0 a1) (le16 v0 v1), t)
    | n, _ => .error (if n < 4 then .truncated else .unknownVariant)

/-- A timestamp of `TS_BITS` bits (30_encoding R71). -/
def parseNow (c : Params) (t : List Byte) : Parsed Timestamp :=
  if t.length < c.tsLen then .error .truncated
  else if c.fits (leNat (t.take c.tsLen)) then .ok (leNat (t.take c.tsLen), t.drop c.tsLen)
  else .error .timestampTooWide

/-- A byte, then an instruction that needs it and a payload. -/
def parseEnc (mk : Byte → Payload → Instr) : List Byte → Parsed Instr
  | [] => .error .truncated
  | ft :: t =>
    match parsePayload t with
    | .ok (p, t) => .ok (mk ft p, t)
    | .error e => .error e

/-- A byte, then an instruction that needs it and a timestamp. -/
def parseBld (c : Params) (mk : Byte → Timestamp → Instr) : List Byte → Parsed Instr
  | [] => .error .truncated
  | cat :: t =>
    match parseNow c t with
    | .ok (now, t) => .ok (mk cat now, t)
    | .error e => .error e

/-- A packet, then an instruction that needs it and a timestamp. -/
def parseUpd (c : Params) (mk : SensorPacket → Timestamp → Instr) (t : List Byte) : Parsed Instr :=
  match parsePacket t with
  | .error e => .error e
  | .ok (p, t) =>
    match parseNow c t with
    | .ok (now, t) => .ok (mk p now, t)
    | .error e => .error e

/-- A case word of format `sport_data_id`: the key, then the packet's other fields, then the timestamp. -/
def parseDataId (c : Params) : List Byte → Parsed Instr
  | d0 :: d1 :: s :: f :: t => parseUpd c (updInstr c) (s :: f :: d0 :: d1 :: t)
  | _ => .error .truncated

/-- A case word of format `sport_key`: 11 bits in two bytes. -/
def parseSportKey : List Byte → Parsed Instr
  | k0 :: k1 :: t =>
    if (le16 k0 k1).toNat < 2 ^ 11 then .ok (sportInstr ((le16 k0 k1).setWidth 11), t) else .error .keyTooWide
  | _ => .error .truncated

/-- A case word of format `sport_close`: 2 bits in one byte. -/
def parseSportClose : List Byte → Parsed Instr
  | [] => .error .truncated
  | k :: t =>
    if k.toNat < 4 then
      match selectClose (k.setWidth 2) with
      | some .ok => .ok (.frameCloseOk, t)
      | some .bad => .ok (.frameCloseBad, t)
      | none => .error .closeNotFull
    else .error .keyTooWide

/-- Reads one instruction from the front of a list of bytes: the header picks the command (30_encoding R70) or the
format, and the key picks the row (R72). -/
def parse (c : Params) : List Byte → Parsed Instr
  | [] => .error .truncated
  | h :: t =>
    match h.toNat with
    | 0x00 =>
      match t with
      | b :: t => .ok (.pb b, t)
      | [] => .error .truncated
    | 0x01 => parseEnc .enc t
    | 0x02 => .ok (.hb, t)
    | 0x03 => parseUpd c .upd t
    | 0x04 => parseBld c .bld t
    | 0x05 => parseUpd c .conv t
    | 0x06 => .ok (.reset, t)
    | 0x07 => .ok (.reserved, t)
    | 0x08 => parseSportKey t
    | 0x10 => parseSportClose t
    | 0x18 => parseEnc crsfInstr t
    | 0x20 => parseBld c bldInstr t
    | 0x28 => parseDataId c t
    | _ => .error .unknownHeader

/-- The instruction that a transaction's word of bytes stands for: all of the word is read. -/
def decode (c : Params) (w : List Byte) : Except DecodeError Instr :=
  match parse c w with
  | .ok (i, []) => .ok i
  | .ok (_, _ :: _) => .error .trailing
  | .error e => .error e

/-! ## Encoding -/

/-- The two bytes of a 16-bit value, least significant first. -/
def half16 (v : Half) : List Byte := [byteAt v 0, byteAt v 1]

/-- The four bytes of a 32-bit value, least significant first. -/
def word32 (v : Word) : List Byte := [byteAt v 0, byteAt v 1, byteAt v 2, byteAt v 3]

/-- The eight bytes of a `SensorPacket`, in the order of 30_encoding R80. -/
def packetBytes (p : SensorPacket) : List Byte := [p.sensorId, p.frameId] ++ half16 p.dataId ++ word32 p.rawValue

/-- The bytes of a `Payload` operand: the variant's number, then its fields (10_state R41). -/
def payloadWord : Payload → List Byte
  | .gps lat lon gs hdg alt sat => [0x00#8] ++ word32 lat ++ word32 lon ++ half16 gs ++ half16 hdg ++ half16 alt ++ [sat]
  | .vario vs => [0x01#8] ++ half16 vs
  | .battery v i cap rem => [0x02#8] ++ half16 v ++ half16 i ++ word32 cap ++ [rem]
  | .baroAlt alt vs => [0x03#8] ++ half16 alt ++ half16 vs

/-- The bytes of a timestamp operand. -/
def nowBytes (c : Params) (now : Timestamp) : List Byte := leBytes c.tsLen now

/-- The bytes of a decoder key. -/
def keyBytes (dstate : BitVec 2) (esc : Bool) (byte : Byte) : List Byte :=
  half16 ((decoderKey dstate esc byte).setWidth 16)

/-- The bytes after the header of a case word of format `sport_data_id`. -/
def dataIdBytes (c : Params) (id : Half) (sensorId frameId : Byte) (raw : Word) (now : Timestamp) : List Byte :=
  half16 id ++ [sensorId, frameId] ++ word32 raw ++ nowBytes c now

/-- The word of a well-formed instruction, from the same tables: the command's `op` (30_encoding R70) or the format's
header and a key that selects the row (R74, R75, R82, R85), then the operands. -/
def encode (c : Params) : Instr → List Byte
  | .pb b => [0x00#8, b]
  | .enc ft p => 0x01#8 :: ft :: payloadWord p
  | .hb => [0x02#8]
  | .upd p now => 0x03#8 :: (packetBytes p ++ nowBytes c now)
  | .bld cat now => 0x04#8 :: cat :: nowBytes c now
  | .conv p now => 0x05#8 :: (packetBytes p ++ nowBytes c now)
  | .reset => [0x06#8]
  | .reserved => [0x07#8]
  | .idleStart e => 0x08#8 :: keyBytes 0#2 e sportSof
  | .idleDiscard e b => 0x08#8 :: keyBytes 0#2 e b
  | .startRestart e => 0x08#8 :: keyBytes 1#2 e sportSof
  | .startEsc e => 0x08#8 :: keyBytes 1#2 e sportEsc
  | .startFirst e b => 0x08#8 :: keyBytes 1#2 e b
  | .dataEsc => 0x08#8 :: keyBytes 2#2 false sportEsc
  | .dataStorePlain b => 0x08#8 :: keyBytes 2#2 false b
  | .dataStoreEscaped b => 0x08#8 :: keyBytes 2#2 true b
  | .dstateInvalid e b => 0x08#8 :: keyBytes 3#2 e b
  | .frameCloseOk => [0x10#8, 0x03#8]
  | .frameCloseBad => [0x10#8, 0x02#8]
  | .encGps p => 0x18#8 :: 0x02#8 :: payloadWord p
  | .encVario p => 0x18#8 :: 0x07#8 :: payloadWord p
  | .encBattery p => 0x18#8 :: 0x08#8 :: payloadWord p
  | .encBaro p => 0x18#8 :: 0x09#8 :: payloadWord p
  | .encHeartbeatType p => 0x18#8 :: 0x0B#8 :: payloadWord p
  | .encRefused ft p => 0x18#8 :: ft :: payloadWord p
  | .bldGps now => 0x20#8 :: 0x02#8 :: nowBytes c now
  | .bldVario now => 0x20#8 :: 0x07#8 :: nowBytes c now
  | .bldBattery now => 0x20#8 :: 0x08#8 :: nowBytes c now
  | .bldBaro now => 0x20#8 :: 0x09#8 :: nowBytes c now
  | .bldRefused cat now => 0x20#8 :: cat :: nowBytes c now
  | .updGpsCoord s f raw now => 0x28#8 :: dataIdBytes c idGpsCoord s f raw now
  | .updGpsAlt s f raw now => 0x28#8 :: dataIdBytes c c.idGpsAlt s f raw now
  | .updGpsSpeed s f raw now => 0x28#8 :: dataIdBytes c c.idGpsSpeed s f raw now
  | .updGpsHeading s f raw now => 0x28#8 :: dataIdBytes c c.idGpsHeading s f raw now
  | .updVoltage s f raw now => 0x28#8 :: dataIdBytes c c.idVoltage s f raw now
  | .updCurrent s f raw now => 0x28#8 :: dataIdBytes c c.idCurrent s f raw now
  | .updFuel s f raw now => 0x28#8 :: dataIdBytes c c.idFuel s f raw now
  | .updBaroAlt s f raw now => 0x28#8 :: dataIdBytes c c.idBaroAlt s f raw now
  | .updVario s f raw now => 0x28#8 :: dataIdBytes c c.idVario s f raw now
  | .updOther p now => 0x28#8 :: dataIdBytes c p.dataId p.sensorId p.frameId p.rawValue now

/-! ## Words as opcode_table.json numbers them -/

/-- The format under which a word of the table is read.
The table's formats overlap (0x02 is a `command`, a `crsf_type` and a `bld_category`), so a word alone does not name
its row. The exact key widths 2, 3 and 11 name their format; of the whole-byte widths, one byte below 8 is a command
and any other a frame type, and two bytes are an identifier where they equal one or exceed 11 bits, else a decoder key.
DESIGN CHOICE, safe (no step uses it): notes/assumptions/4.md. -/
def tableFormat (c : Params) (nbits w : Nat) : KeyFormat :=
  if nbits = 2 then .sportClose
  else if nbits = 3 then .command
  else if nbits = 11 then .sportKey
  else if nbits ≤ 8 then (if w < 8 then .command else .crsfType)
  else if c.ids.contains (BitVec.ofNat 16 w) || decide (2 ^ 11 ≤ w) then .sportDataId
  else .sportKey

/-- The bytes of a table word: the format's header where it is no command, the word's bytes, then zeros up to the
longest instruction. -/
def tableWordBytes (c : Params) (nbits w : Nat) : List Byte :=
  let v := w % 2 ^ nbits
  match tableFormat c nbits v with
  | .command => leBytes (18 + c.tsLen) v
  | fmt => fmt.header :: leBytes (18 + c.tsLen) v

/-- The instruction the decoder reads from a table word, under the default parameters (30_encoding R92). -/
def decodeTableWord (nbits w : Nat) : Option Instr :=
  match parse Params.default (tableWordBytes Params.default nbits w) with
  | .ok (i, _) => some i
  | .error _ => none

end Sys2Proof
end

