-- ==== Sys2Proof/Machine/State.lean ====
section
/-! DEFINITION. The state of the block (10_state), its reset value (10_state R43, 70_reset R270), and the reasons a
step can stop. Plain data throughout. -/

namespace Sys2Proof.Machine

/-- `dstate`, a 2-bit register (10_state R22): its three states and the code 3 that no rule writes. -/
inductive DState
  /-- `Idle` = 0. -/
  | idle
  /-- `Start` = 1. -/
  | start
  /-- `Data` = 2. -/
  | data
  /-- The code 3, never written (10_state R22, 30_encoding R76). -/
  | invalid
  deriving DecidableEq, Repr

/-- The decoder registers (10_state R22 to R25). -/
structure Decoder where
  /-- `dstate` (R22). -/
  dstate : DState
  /-- `esc`, the pending-escape flag (R23). -/
  esc : Bool
  /-- `idx`, a 4-bit register (R24). -/
  idx : BitVec 4
  /-- `buf[0..8]` (R25). -/
  buf : Vector Byte 9
  deriving DecidableEq, Repr

/-- GPS category (10_state R31). `latitude` and `longitude` are i32. -/
structure GpsCat where
  latitude : Word
  longitude : Word
  altitude : Word
  groundSpeed : Word
  heading : Word
  satelliteCount : Byte
  valid : Bool
  lastUpdate : Timestamp
  deriving DecidableEq, Repr

/-- Battery category (10_state R32). -/
structure BatCat where
  voltageMv : Word
  currentMa : Word
  capacityUsedMah : Word
  fuelPercent : Byte
  valid : Bool
  lastUpdate : Timestamp
  deriving DecidableEq, Repr

/-- Barometric altitude category (10_state R33). `altitudeCm` is i32. -/
structure BaroCat where
  altitudeCm : Word
  valid : Bool
  lastUpdate : Timestamp
  deriving DecidableEq, Repr

/-- Vario category (10_state R34). `verticalSpeedCms` is i16. -/
structure VarioCat where
  verticalSpeedCms : Half
  valid : Bool
  lastUpdate : Timestamp
  deriving DecidableEq, Repr

/-- `TelemetrySnapshot`, one instance grouped by category (10_state R30). -/
structure Snapshot where
  gps : GpsCat
  bat : BatCat
  baro : BaroCat
  vario : VarioCat
  deriving DecidableEq, Repr

/-- `OutboundFrame` (10_state R37 (b), 41_crsf R150): `bytes` holds the frame's bytes and no more, since the positions
from `length` on are no part of the result. -/
structure OutboundFrame where
  bytes : List Byte
  length : Byte
  deriving DecidableEq, Repr

/-- `DecodeEvent`, the side output of `process_byte` (10_state R42). -/
inductive DecodeEvent
  /-- `NONE` = 0. -/
  | none
  /-- `PACKET` = 1. -/
  | packet
  /-- `CRC_ERROR` = 2. -/
  | crcError
  deriving DecidableEq, Repr

/-- `EncodeError` (60_exceptions R242). -/
inductive EncodeError
  | payloadTooLarge
  deriving DecidableEq, Repr

/-- The outcomes of a transaction that completes (60_exceptions R240, codes 0 to 4).
Code 5 is `Fault.unreachableDecoderState`: it has no next state. -/
inductive OutcomeCode
  /-- Code 0, completion. -/
  | ok
  /-- Code 1, a checksum mismatch at a close (R241). -/
  | frameIntegrity
  /-- Code 2, an encode over 64 bytes (R242). -/
  | payloadTooLarge
  /-- Code 3, no fresh value (R243). -/
  | staleData
  /-- Code 4, a refused transaction (R244). -/
  | contractViolation
  deriving DecidableEq, Repr

/-- What a transaction returns on its output port (00_scope R12 `out`, 30_encoding R70). -/
inductive TxnResult
  /-- No result: `UPD`, `RESET`, and every refused transaction (60_exceptions R244). -/
  | nothing
  /-- `PB`: a `DecodeEvent` and an `Option<SensorPacket>`. -/
  | decoded (event : DecodeEvent) (packet : Option SensorPacket)
  /-- `ENC` (`Ok`) and `HB`: an `OutboundFrame`. -/
  | frame (f : OutboundFrame)
  /-- `ENC` (`Err`). -/
  | encodeError (e : EncodeError)
  /-- `BLD`: an `Option<Payload>`. -/
  | payload (p : Option Payload)
  /-- `CONV`: an `Option<OutboundFrame>`. -/
  | converted (f : Option OutboundFrame)
  deriving DecidableEq, Repr

/-- The output port after a transaction: its outcome (60_exceptions R240) and its result. -/
structure Report where
  outcome : OutcomeCode
  result : TxnResult
  deriving DecidableEq, Repr

/-- The state of the block and its ports. -/
structure State where
  /-- The parameters (00_scope R5): constant, no transaction writes them. -/
  cfg : Params
  /-- `dec`, the decoder state (10_state R21). -/
  dec : Decoder
  /-- `snap`, the telemetry snapshot (10_state R21). -/
  snap : Snapshot
  /-- `refused`, the refusal mark (10_state R38). -/
  refused : Bool
  /-- The transactions presented and not yet taken, oldest first, each a word of bytes
  (10_state R20, 30_encoding R70; notes/assumptions/1.md). -/
  port : List (List Byte)
  /-- The output port: what the last completed transaction answered (00_scope R12; notes/assumptions/8.md). -/
  report : Option Report
  /-- The frames handed to the byte sink, oldest first (60_exceptions R253; notes/assumptions/9.md). -/
  sink : List OutboundFrame
  deriving DecidableEq, Repr

/-- Why the machine stops in a fault. The spec has one fault and no other (60_exceptions R250). -/
inductive Fault
  /-- `UNREACHABLE_DECODER_STATE`, code 5 of 60_exceptions R240: raised by every `PB` while `dstate` = 3
  (30_encoding R76, R250). Safe: the spec gives it no successor, and no run of the block reaches it. -/
  | unreachableDecoderState
  deriving DecidableEq, Repr

/-- Why the machine gives a transaction no meaning. -/
inductive Refusal
  /-- An instruction with no meaning yet, raised by an arm of `exec`. Safe. -/
  | notModelled (mnemonic : String)
  /-- Two identifiers are equal or the timeout does not fit (00_scope R6, R7): raised by `fetch`, before any
  transaction. Safe: the spec refuses such a configuration. -/
  | illegalConfiguration
  /-- The word at the port is no transaction in the model's layout: raised by `fetch`. Safe: no transaction of the
  spec has such a word (notes/assumptions/14.md). -/
  | undecodable (e : DecodeError)
  /-- A case word where the dispatch does not select its row (30_encoding R72): raised by the meanings of the case
  rows. Safe: the spec gives a case no effect outside its key (notes/assumptions/3.md). -/
  | caseNotSelected
  /-- A store to `buf[idx]` with `idx` above 8, raised by the storing cases of `PB`: that byte does not exist, and no
  rule gives the store an effect (20_memory R51, 10_state R26). It is no fault, since the spec has but one
  (60_exceptions R250). Safe: no run from reset reaches it (notes/assumptions/12.md). -/
  | bufferIndexOutOfRange
  deriving DecidableEq, Repr

/-- The decoder after reset (10_state R43, 70_reset R270).
`buf` has no reset value in the spec: zeros are a DESIGN CHOICE, unsafe: notes/assumptions/7.md. -/
def Decoder.reset : Decoder where
  dstate := .idle
  esc := false
  idx := 0#4
  buf := Vector.replicate 9 0x00#8

/-- The snapshot after reset: every field 0, every `valid` 0, every `last_update` 0 (10_state R30, R43). -/
def Snapshot.reset : Snapshot where
  gps := ⟨0#32, 0#32, 0#32, 0#32, 0#32, 0#8, false, 0⟩
  bat := ⟨0#32, 0#32, 0#32, 0#8, false, 0⟩
  baro := ⟨0#32, false, 0⟩
  vario := ⟨0#16, false, 0⟩

/-- The machine right after power-on (70_reset R270, 10_state R43), under the default parameters, with nothing
presented, nothing answered and nothing transmitted. -/
def State.reset : State where
  cfg := Params.default
  dec := Decoder.reset
  snap := Snapshot.reset
  refused := false
  port := []
  report := none
  sink := []

end Sys2Proof.Machine
end

