-- ==== Sys2Proof/Machine/Operands.lean ====
section
/-! DEFINITION. How operands are read and written: the decoder key, de-stuffing, the assembly of a packet, the
conversions of 42_sensor_unpack, the packing of 43_outbound_pack R221, the payload layouts of 30_encoding R84. -/

namespace Sys2Proof.Machine

/-! ## The decoder's operands -/

/-- The code of `dstate` (10_state R22). -/
def DState.code : DState → BitVec 2
  | .idle => 0#2
  | .start => 1#2
  | .data => 2#2
  | .invalid => 3#2

/-- The state a 2-bit code stands for. -/
def DState.ofCode (k : BitVec 2) : DState :=
  if k = 0#2 then .idle else if k = 1#2 then .start else if k = 2#2 then .data else .invalid

/-- The key a `PB` of `b` forms (30_encoding R73). -/
def Decoder.key (d : Decoder) (b : Byte) : BitVec 11 := decoderKey d.dstate.code d.esc b

/-- What `destuff(b)` returns (40_sport R101). It leaves `esc` = 0 in every case. -/
def destuff (esc : Bool) (b : Byte) : Byte :=
  if esc then (if b = 0x5E#8 then 0x7E#8 else if b = 0x5D#8 then 0x7D#8 else b) else b

/-- The packet of a good close (30_encoding R81). -/
def assemblePacket (buf : Vector Byte 9) : SensorPacket where
  sensorId := buf[0]
  frameId := buf[1]
  dataId := le16 buf[2] buf[3]
  rawValue := le32 buf[4] buf[5] buf[6] buf[7]

/-! ## The conversions of `update` -/

/-- The coordinate `d` of 42_sensor_unpack R172, before `s32`. -/
def coordinate (raw : Word) : Int :=
  let v := raw.toNat % 2 ^ 30
  let deg := v / 1000000
  let mins := v % 1000000 / 10000
  let frac := v % 10000
  let d : Nat := deg * 10000000 + mins * 10000000 / 60 + frac * 1000 / 60
  if raw.getLsbD 30 then -(d : Int) else d

/-- R173: `wrap32((raw div 10) + 1000)`. -/
def gpsAltitude (raw : Word) : Word := BitVec.ofNat 32 (raw.toNat / 10 + 1000)

/-- R174: `wrap32(raw * 1852) div 10000`. -/
def gpsSpeed (raw : Word) : Word := BitVec.ofNat 32 (raw.toNat * 1852 % 2 ^ 32 / 10000)

/-- R175: `raw div 100`. -/
def gpsHeading (raw : Word) : Word := BitVec.ofNat 32 (raw.toNat / 100)

/-- R176: `wrap32(raw * 100)`. -/
def voltageMv (raw : Word) : Word := BitVec.ofNat 32 (raw.toNat * 100)

/-- R177: `wrap32(raw * 100)`. -/
def currentMa (raw : Word) : Word := BitVec.ofNat 32 (raw.toNat * 100)

/-- R178: `raw[7:0]`. -/
def fuelPercent (raw : Word) : Byte := raw.setWidth 8

/-- R179: `tdiv(s32(raw), 10)`. -/
def baroAltitude (raw : Word) : Word := BitVec.ofInt 32 (raw.toInt.tdiv 10)

/-- R180: `s16(raw)`. -/
def varioSpeed (raw : Word) : Half := raw.setWidth 16

/-! ## Categories and frame types -/

/-- The frame type of a category (10_state R41, 30_encoding R85). -/
def frameTypeOf : Category → Byte
  | .gps => 0x02#8
  | .vario => 0x07#8
  | .battery => 0x08#8
  | .baro => 0x09#8

/-- The tag of a payload, its frame type (10_state R41). -/
def payloadTag : Payload → Byte
  | .gps .. => 0x02#8
  | .vario .. => 0x07#8
  | .battery .. => 0x08#8
  | .baroAlt .. => 0x09#8

/-- `route` of an `UPD` row (43_outbound_pack R210). -/
def routeRow : UpdRow → Option Category
  | .gpsCoord => some .gps
  | .gpsAlt => some .gps
  | .gpsSpeed => some .gps
  | .gpsHeading => some .gps
  | .voltage => some .battery
  | .current => some .battery
  | .fuel => some .battery
  | .baroAlt => some .baro
  | .vario => some .vario
  | .other => none

/-- `route(data_id)` (43_outbound_pack R210). -/
def route (c : Params) (dataId : Half) : Option Category := routeRow (selectUpd c dataId)

/-- The payload fields of a category: the snapshot fields cut to their low bits
(43_outbound_pack R221 and R212 to R215). -/
def packPayload (snap : Snapshot) : Category → Payload
  | .gps =>
    .gps snap.gps.latitude snap.gps.longitude (snap.gps.groundSpeed.setWidth 16) (snap.gps.heading.setWidth 16)
      (snap.gps.altitude.setWidth 16) snap.gps.satelliteCount
  | .vario => .vario snap.vario.verticalSpeedCms
  | .battery =>
    .battery (snap.bat.voltageMv.setWidth 16) (snap.bat.currentMa.setWidth 16) snap.bat.capacityUsedMah
      snap.bat.fuelPercent
  | .baro => .baroAlt (snap.baro.altitudeCm.setWidth 16) snap.vario.verticalSpeedCms

/-! ## CRSF payload bytes -/

/-- `BE_N(v)`: the `n` bytes of `wrap(8n)(v)`, most significant first (00_scope R11). -/
def beBytes : Nat → Nat → List Byte
  | 0, _ => []
  | n + 1, v => BitVec.ofNat 8 (v / 256 ^ n) :: beBytes n v

/-- The number of capacity bytes on the wire (00_scope R5). -/
def battCapBytes : BattCap → Nat
  | .three => 3
  | .four => 4

/-- The payload bytes of a frame, field by field, big-endian (30_encoding R84). -/
def payloadBytes (c : Params) : Payload → List Byte
  | .gps lat lon gs hdg alt sat =>
    beBytes 4 lat.toNat ++ beBytes 4 lon.toNat ++ beBytes 2 gs.toNat ++ beBytes 2 hdg.toNat ++ beBytes 2 alt.toNat
      ++ beBytes 1 sat.toNat
  | .vario vs => beBytes 2 vs.toNat
  | .battery v i cap rem =>
    beBytes 2 v.toNat ++ beBytes 2 i.toNat ++ beBytes (battCapBytes c.battCap) cap.toNat ++ beBytes 1 rem.toNat
  | .baroAlt alt vs => beBytes 2 alt.toNat ++ beBytes 2 vs.toNat

end Sys2Proof.Machine
end

