-- ==== Sys2Proof/Machine/Flags.lean ====
section
/-! DEFINITION. The flags of the block: the category refresh `touch` (42_sensor_unpack R171), the freshness predicate
(43_outbound_pack R211), the outcome codes (60_exceptions R240). `esc` and `refused` are written by the operations of
Machine/Ops.lean. -/

namespace Sys2Proof.Machine

/-- `touch(gps, now)` (R171). -/
def touchGps (now : Timestamp) (c : GpsCat) : GpsCat := { c with valid := true, lastUpdate := now }

/-- `touch(bat, now)` (R171). -/
def touchBat (now : Timestamp) (c : BatCat) : BatCat := { c with valid := true, lastUpdate := now }

/-- `touch(baro, now)` (R171). -/
def touchBaro (now : Timestamp) (c : BaroCat) : BaroCat := { c with valid := true, lastUpdate := now }

/-- `touch(vario, now)` (R171). -/
def touchVario (now : Timestamp) (c : VarioCat) : VarioCat := { c with valid := true, lastUpdate := now }

/-- `cat.valid` (10_state R31 to R34). -/
def Snapshot.validOf (snap : Snapshot) : Category → Bool
  | .gps => snap.gps.valid
  | .vario => snap.vario.valid
  | .battery => snap.bat.valid
  | .baro => snap.baro.valid

/-- `cat.last_update` (10_state R31 to R34). -/
def Snapshot.lastUpdateOf (snap : Snapshot) : Category → Timestamp
  | .gps => snap.gps.lastUpdate
  | .vario => snap.vario.lastUpdate
  | .battery => snap.bat.lastUpdate
  | .baro => snap.baro.lastUpdate

/-- `wrap_TS_BITS(now - last_update)` (43_outbound_pack R211). -/
def age (c : Params) (now last : Timestamp) : Nat := (((now : Int) - last) % (2 : Int) ^ c.tsBits).toNat

/-- `fresh(cat, now)` (43_outbound_pack R211). -/
def fresh (c : Params) (snap : Snapshot) (cat : Category) (now : Timestamp) : Bool :=
  snap.validOf cat && decide (age c now (snap.lastUpdateOf cat) < c.stalenessTimeout)

/-- The code of an outcome (60_exceptions R240). -/
def OutcomeCode.code : OutcomeCode → Nat
  | .ok => 0
  | .frameIntegrity => 1
  | .payloadTooLarge => 2
  | .staleData => 3
  | .contractViolation => 4

/-- The code of the one fault (60_exceptions R240, R250). -/
def Fault.code : Fault → Nat
  | .unreachableDecoderState => 5

/-- The code of an event (10_state R42). -/
def DecodeEvent.code : DecodeEvent → Nat
  | .none => 0
  | .packet => 1
  | .crcError => 2

end Sys2Proof.Machine
end

