-- ==== Sys2Proof/Machine/Ops.lean ====
section
/-! DEFINITION. The operations the meanings share: answering on the output port, refusing, the checksum and the CRC,
the frame, the buffer store and the close, the transmit.

The block takes no exception: no outcome saves state, changes mode or transfers control, and nothing returns
(60_exceptions R247, R248). What stands in their place is `answer`, which records an outcome, and `refuse`, the one
outcome that leaves a mark. -/

namespace Sys2Proof.Machine

/-- What a meaning answers. -/
abbrev Result := Host.Outcome State Fault Refusal

/-- Writes the decoder registers. -/
def State.setDec (s : State) (d : Decoder) : State := { s with dec := d }

/-- Writes the snapshot. -/
def State.setSnap (s : State) (snap : Snapshot) : State := { s with snap := snap }

/-- `out(result)` with an outcome (00_scope R12, 60_exceptions R240). -/
def State.answer (s : State) (outcome : OutcomeCode) (result : TxnResult) : State :=
  { s with report := some ⟨outcome, result⟩ }

/-- `refuse ContractViolation`: sets `refused`, changes no block state, returns nothing, emits nothing
(60_exceptions R244). The machine goes on (R248): DEDUCED, notes/assumptions/10.md. -/
def State.refuse (s : State) : State := { s with refused := true, report := some ⟨.contractViolation, .nothing⟩ }

/-- `Transmit(bytes)`: one call of the byte sink (60_exceptions R253). -/
def State.transmit (s : State) (f : OutboundFrame) : State := { s with sink := s.sink ++ [f] }

/-! ## Checksums -/

/-- One round of `chk`, `masked`: the mask comes before the fold (40_sport R102). -/
def chkStepMasked (crc : Nat) (b : Byte) : Nat :=
  let crc := (crc + b.toNat) &&& 0xFF
  let crc := crc + (crc >>> 8)
  crc &&& 0xFF

/-- One round of `chk`, `end_around_carry` (40_sport R103). -/
def chkStepEndAround (crc : Nat) (b : Byte) : Nat :=
  let crc := crc + b.toNat
  let crc := crc + (crc >>> 8)
  crc &&& 0xFF

/-- One round of `chk` under a variant. -/
def chkStep : CrcVariant → Nat → Byte → Nat
  | .masked => chkStepMasked
  | .endAroundCarry => chkStepEndAround

/-- `chk(s)` (40_sport R102, R103). -/
def chk (v : CrcVariant) (bytes : List Byte) : Byte := BitVec.ofNat 8 (0xFF - bytes.foldl (chkStep v) 0)

/-- One bit of `crc8` (41_crsf R140). -/
def crc8Bit (c : Byte) : Byte := if c.msb then (c <<< 1) ^^^ crc8Poly else c <<< 1

/-- One byte of `crc8`: the XOR and the eight bits (41_crsf R140). -/
def crc8Byte (c x : Byte) : Byte :=
  crc8Bit (crc8Bit (crc8Bit (crc8Bit (crc8Bit (crc8Bit (crc8Bit (crc8Bit (c ^^^ x))))))))

/-- `crc8(s)` (41_crsf R140). PRESUMED by the spec itself: notes/assumptions/16.md. -/
def crc8 (bytes : List Byte) : Byte := bytes.foldl crc8Byte crc8Init

/-! ## Frames -/

/-- `frame(t, p)` (41_crsf R141, 30_encoding R83). -/
def frame (t : Byte) (p : List Byte) : OutboundFrame where
  bytes := [crsfSync, BitVec.ofNat 8 (p.length + 2)] ++ (t :: p) ++ [crc8 (t :: p)]
  length := BitVec.ofNat 8 (p.length + 4)

/-- The size check of 41_crsf R142, then assembly (R141): `encode` of a payload under a frame type. -/
def encodePayload (c : Params) (t : Byte) (p : Payload) : Except EncodeError OutboundFrame :=
  if crsfMaxFrame < (payloadBytes c p).length + 4 then .error .payloadTooLarge
  else .ok (frame t (payloadBytes c p))

/-! ## The buffer and the close -/

/-- The checksum test of a close: `chk(buf[0..7]) = buf[8]` (30_encoding R75). -/
def checksumMatches (c : Params) (d : Decoder) : Bool := chk c.crcVariant (d.buf.toList.take 8) == d.buf[8]

/-- The close key `(full, match)` (30_encoding R75). -/
def closeKey (c : Params) (d : Decoder) : BitVec 2 :=
  BitVec.ofBool (d.idx == 9#4) ++ BitVec.ofBool (checksumMatches c d)

/-- The answer of a `PB` that closes no frame: event `NONE`, packet `None` (40_sport, introduction). -/
def State.answerNone (s : State) : State := s.answer .ok (.decoded .none none)

/-- `close()`, the match case (40_sport R112). -/
def closeOk (s : State) : State :=
  (s.setDec { s.dec with dstate := .idle }).answer .ok (.decoded .packet (some (assemblePacket s.dec.buf)))

/-- `close()`, the mismatch case (40_sport R113, 60_exceptions R241). -/
def closeBad (s : State) : State :=
  (s.setDec { s.dec with dstate := .idle }).answer .frameIntegrity (.decoded .crcError none)

/-- What follows a store: the close case its key selects, or no close (30_encoding R72, R75). -/
def afterStore (s : State) : State :=
  match selectClose (closeKey s.cfg s.dec) with
  | some .ok => closeOk s
  | some .bad => closeBad s
  | none => s.answerNone

/-- The decoder after `v <- destuff(b); buf[idx] <- v; idx <- idx + 1` (40_sport R101, R110, R111). -/
def storeByte (d : Decoder) (b : Byte) : Decoder :=
  { d with esc := false, buf := d.buf.setIfInBounds d.idx.toNat (destuff d.esc b), idx := d.idx + 1 }

/-- The shared pseudocode of `DATA.STORE.PLAIN` and `DATA.STORE.ESCAPED` (40_sport R110, R111).
A store outside `buf[0..8]` names a byte that does not exist (20_memory R51): notes/assumptions/12.md. -/
def storeData (b : Byte) (s : State) : Result :=
  if 9#4 ≤ s.dec.idx then .refused .bufferIndexOutOfRange
  else .next (afterStore (s.setDec (storeByte s.dec b)))

/-! ## Case rows -/

/-- A case row of `PB` runs where the key selects it (30_encoding R72, R73); elsewhere it has no effect to give
(notes/assumptions/3.md). -/
def whenSelected (row : SportRow) (esc : Bool) (b : Byte) (s : State) (run : Result) : Result :=
  if selectSport (s.dec.key b) = row ∧ s.dec.esc = esc then run else .refused .caseNotSelected

end Sys2Proof.Machine
end

