-- ==== Sys2Proof/Machine/CrsfEncoder.lean ====
section
/-! DEFINITION. `ENC`, its rows of format `crsf_type`, and `HB` (41_crsf_encoder). The encoder holds no state: each
meaning answers on the output port and changes nothing else. -/

namespace Sys2Proof.Machine

/-- What an `ENC` of a supported frame type answers: the contract check of R148, then the size check of R142, then
assembly (60_exceptions R246). -/
def encodeAs (cat : Category) (p : Payload) (s : State) : Result :=
  if payloadTag p = frameTypeOf cat then
    match encodePayload s.cfg (frameTypeOf cat) p with
    | .ok f => .next (s.answer .ok (.frame f))
    | .error e => .next (s.answer .payloadTooLarge (.encodeError e))
  else .next s.refuse

/-- `ENC` (R148, R142, R141): the frame type selects the case (30_encoding R85). -/
def execEnc (frameType : Byte) (p : Payload) (s : State) : Result :=
  match selectCrsf frameType with
  | .gps => encodeAs .gps p s
  | .vario => encodeAs .vario p s
  | .battery => encodeAs .battery p s
  | .baro => encodeAs .baro p s
  | .heartbeatType => .next s.refuse
  | .refused => .next s.refuse

/-- `ENC.GPS` (R143). -/
def execEncGps (p : Payload) (s : State) : Result := encodeAs .gps p s

/-- `ENC.VARIO` (R144). -/
def execEncVario (p : Payload) (s : State) : Result := encodeAs .vario p s

/-- `ENC.BATTERY` (R145). -/
def execEncBattery (p : Payload) (s : State) : Result := encodeAs .battery p s

/-- `ENC.BARO` (R146). -/
def execEncBaro (p : Payload) (s : State) : Result := encodeAs .baro p s

/-- `ENC.HEARTBEAT_TYPE` (R148): refused, whatever the payload. -/
def execEncHeartbeatType (_p : Payload) (s : State) : Result := .next s.refuse

/-- `ENC.REFUSED` (R148): refused, whatever the payload; a frame type of another row does not select this one
(30_encoding R72, notes/assumptions/3.md). -/
def execEncRefused (frameType : Byte) (_p : Payload) (s : State) : Result :=
  if selectCrsf frameType = .refused then .next s.refuse else .refused .caseNotSelected

/-- `HB` (R147): the frame of type 0x0B whose payload is `FC_ADDR`. -/
def execHb (s : State) : Result := .next (s.answer .ok (.frame (frame 0x0B#8 [s.cfg.fcAddr])))

end Sys2Proof.Machine
end

