-- ==== Sys2Proof/Machine/Unpacker.lean ====
section
/-! DEFINITION. `UPD` and its rows of format `sport_data_id` (42_sensor_unpack). -/

namespace Sys2Proof.Machine

/-! ## The snapshot after each case -/

/-- R172: bit 31 selects longitude (set) or latitude (clear). -/
def storeGpsCoord (raw : Word) (now : Timestamp) (snap : Snapshot) : Snapshot :=
  let d := BitVec.ofInt 32 (coordinate raw)
  { snap with
    gps := touchGps now
      (if raw.getLsbD 31 then { snap.gps with longitude := d } else { snap.gps with latitude := d }) }

/-- R173. -/
def storeGpsAlt (raw : Word) (now : Timestamp) (snap : Snapshot) : Snapshot :=
  { snap with gps := touchGps now { snap.gps with altitude := gpsAltitude raw } }

/-- R174. -/
def storeGpsSpeed (raw : Word) (now : Timestamp) (snap : Snapshot) : Snapshot :=
  { snap with gps := touchGps now { snap.gps with groundSpeed := gpsSpeed raw } }

/-- R175. -/
def storeGpsHeading (raw : Word) (now : Timestamp) (snap : Snapshot) : Snapshot :=
  { snap with gps := touchGps now { snap.gps with heading := gpsHeading raw } }

/-- R176. -/
def storeVoltage (raw : Word) (now : Timestamp) (snap : Snapshot) : Snapshot :=
  { snap with bat := touchBat now { snap.bat with voltageMv := voltageMv raw } }

/-- R177. -/
def storeCurrent (raw : Word) (now : Timestamp) (snap : Snapshot) : Snapshot :=
  { snap with bat := touchBat now { snap.bat with currentMa := currentMa raw } }

/-- R178. -/
def storeFuel (raw : Word) (now : Timestamp) (snap : Snapshot) : Snapshot :=
  { snap with bat := touchBat now { snap.bat with fuelPercent := fuelPercent raw } }

/-- R179. -/
def storeBaroAlt (raw : Word) (now : Timestamp) (snap : Snapshot) : Snapshot :=
  { snap with baro := touchBaro now { snap.baro with altitudeCm := baroAltitude raw } }

/-- R180. -/
def storeVario (raw : Word) (now : Timestamp) (snap : Snapshot) : Snapshot :=
  { snap with vario := touchVario now { snap.vario with verticalSpeedCms := varioSpeed raw } }

/-- The snapshot after the case of a row; `UPD.OTHER` writes nothing (R181). -/
def storeRow (raw : Word) (now : Timestamp) (snap : Snapshot) : UpdRow → Snapshot
  | .gpsCoord => storeGpsCoord raw now snap
  | .gpsAlt => storeGpsAlt raw now snap
  | .gpsSpeed => storeGpsSpeed raw now snap
  | .gpsHeading => storeGpsHeading raw now snap
  | .voltage => storeVoltage raw now snap
  | .current => storeCurrent raw now snap
  | .fuel => storeFuel raw now snap
  | .baroAlt => storeBaroAlt raw now snap
  | .vario => storeVario raw now snap
  | .other => snap

/-- `update(packet, now)` (R170): the case its `data_id` selects. -/
def update (c : Params) (p : SensorPacket) (now : Timestamp) (snap : Snapshot) : Snapshot :=
  storeRow p.rawValue now snap (selectUpd c p.dataId)

/-! ## Meanings -/

/-- An `UPD` that leaves the snapshot `snap`: it returns nothing (R170). -/
def updated (snap : Snapshot) (s : State) : Result := .next ((s.setSnap snap).answer .ok .nothing)

/-- `UPD` (R170). -/
def execUpd (p : SensorPacket) (now : Timestamp) (s : State) : Result := updated (update s.cfg p now s.snap) s

/-- `UPD.GPS_COORD` (R172). -/
def execUpdGpsCoord (_sensorId _frameId : Byte) (raw : Word) (now : Timestamp) (s : State) : Result :=
  updated (storeGpsCoord raw now s.snap) s

/-- `UPD.GPS_ALT` (R173). -/
def execUpdGpsAlt (_sensorId _frameId : Byte) (raw : Word) (now : Timestamp) (s : State) : Result :=
  updated (storeGpsAlt raw now s.snap) s

/-- `UPD.GPS_SPEED` (R174). -/
def execUpdGpsSpeed (_sensorId _frameId : Byte) (raw : Word) (now : Timestamp) (s : State) : Result :=
  updated (storeGpsSpeed raw now s.snap) s

/-- `UPD.GPS_HEADING` (R175). -/
def execUpdGpsHeading (_sensorId _frameId : Byte) (raw : Word) (now : Timestamp) (s : State) : Result :=
  updated (storeGpsHeading raw now s.snap) s

/-- `UPD.VOLTAGE` (R176). -/
def execUpdVoltage (_sensorId _frameId : Byte) (raw : Word) (now : Timestamp) (s : State) : Result :=
  updated (storeVoltage raw now s.snap) s

/-- `UPD.CURRENT` (R177). -/
def execUpdCurrent (_sensorId _frameId : Byte) (raw : Word) (now : Timestamp) (s : State) : Result :=
  updated (storeCurrent raw now s.snap) s

/-- `UPD.FUEL` (R178). -/
def execUpdFuel (_sensorId _frameId : Byte) (raw : Word) (now : Timestamp) (s : State) : Result :=
  updated (storeFuel raw now s.snap) s

/-- `UPD.BARO_ALT` (R179). -/
def execUpdBaroAlt (_sensorId _frameId : Byte) (raw : Word) (now : Timestamp) (s : State) : Result :=
  updated (storeBaroAlt raw now s.snap) s

/-- `UPD.VARIO` (R180). -/
def execUpdVario (_sensorId _frameId : Byte) (raw : Word) (now : Timestamp) (s : State) : Result :=
  updated (storeVario raw now s.snap) s

/-- `UPD.OTHER` (R181): accepted, and nothing is written; a recognised `data_id` does not select this row
(30_encoding R72, notes/assumptions/3.md). -/
def execUpdOther (p : SensorPacket) (_now : Timestamp) (s : State) : Result :=
  if selectUpd s.cfg p.dataId = .other then updated s.snap s else .refused .caseNotSelected

end Sys2Proof.Machine
end

