-- ==== Sys2Proof/Machine/Packer.lean ====
section
/-! DEFINITION. `BLD`, its rows of format `bld_category`, and `CONV` (43_outbound_pack). -/

namespace Sys2Proof.Machine

/-- `build_outbound(category, now)` (R211 to R215): the category's payload where it is fresh. -/
def buildOutbound (c : Params) (snap : Snapshot) (cat : Category) (now : Timestamp) : Option Payload :=
  if fresh c snap cat now then some (packPayload snap cat) else none

/-- The outcome of a `build_outbound` result: `None` is the source's StaleDataError (60_exceptions R243). -/
def buildOutcome : Option Payload → OutcomeCode
  | some _ => .ok
  | none => .staleData

/-- What a `BLD` of a category answers. It changes no block state (R217). -/
def buildAs (cat : Category) (now : Timestamp) (s : State) : Result :=
  let p := buildOutbound s.cfg s.snap cat now
  .next (s.answer (buildOutcome p) (.payload p))

/-- `BLD`: the category check of R216 comes before the freshness test (60_exceptions R246). -/
def execBld (category : Byte) (now : Timestamp) (s : State) : Result :=
  match selectBld category with
  | .gps => buildAs .gps now s
  | .vario => buildAs .vario now s
  | .battery => buildAs .battery now s
  | .baro => buildAs .baro now s
  | .refused => .next s.refuse

/-- `BLD.GPS` (R212). -/
def execBldGps (now : Timestamp) (s : State) : Result := buildAs .gps now s

/-- `BLD.VARIO` (R213). -/
def execBldVario (now : Timestamp) (s : State) : Result := buildAs .vario now s

/-- `BLD.BATTERY` (R214). -/
def execBldBattery (now : Timestamp) (s : State) : Result := buildAs .battery now s

/-- `BLD.BARO` (R215). -/
def execBldBaro (now : Timestamp) (s : State) : Result := buildAs .baro now s

/-- `BLD.REFUSED` (R216): refused; a category of another row does not select this one
(30_encoding R72, notes/assumptions/3.md). -/
def execBldRefused (category : Byte) (_now : Timestamp) (s : State) : Result :=
  if selectBld category = .refused then .next s.refuse else .refused .caseNotSelected

/-- The end of `CONV` on the updated state: build, encode, transmit (R218).
The two outcomes other than OK are those of R243 and R242; the second cannot happen (41_crsf R142):
notes/assumptions/20.md, notes/assumptions/21.md. -/
def convertRouted (cat : Category) (now : Timestamp) (s : State) : State :=
  match buildOutbound s.cfg s.snap cat now with
  | none => s.answer .staleData (.converted none)
  | some p =>
    match encodePayload s.cfg (frameTypeOf cat) p with
    | .ok f => (s.transmit f).answer .ok (.converted (some f))
    | .error _ => s.answer .payloadTooLarge (.converted none)

/-- `CONV` (R218): `update`, then `route`, then build, encode and transmit on the updated snapshot. -/
def execConv (p : SensorPacket) (now : Timestamp) (s : State) : Result :=
  let s := s.setSnap (update s.cfg p now s.snap)
  match route s.cfg p.dataId with
  | none => .next (s.answer .ok (.converted none))
  | some cat => .next (convertRouted cat now s)

end Sys2Proof.Machine
end

