-- ==== Sys2Proof/Machine/SportDecoder.lean ====
section
/-! DEFINITION. `PB` and the rows of formats `sport_key` and `sport_close` (40_sport_decoder).

The pseudocode of a case stands once, as a `run…` definition: `execPb` dispatches to it by the decoder key (R100), and
the case's own meaning runs it where the key selects the case (30_encoding R72). -/

namespace Sys2Proof.Machine

/-! ## Pseudocode of the cases -/

/-- R104: `dstate <- Start; idx <- 0; esc <- 0`. -/
def runIdleStart (s : State) : Result :=
  .next (s.setDec { s.dec with dstate := .start, esc := false, idx := 0#4 }).answerNone

/-- R105: no state change. -/
def runIdleDiscard (s : State) : Result := .next s.answerNone

/-- R106: `idx <- 0; if START_RESTART_CLEARS_ESC then esc <- 0`. -/
def runStartRestart (s : State) : Result :=
  .next (s.setDec { s.dec with esc := s.dec.esc && !s.cfg.restartClearsEsc, idx := 0#4 }).answerNone

/-- R107: `esc <- 1`. -/
def runStartEsc (s : State) : Result := .next (s.setDec { s.dec with esc := true }).answerNone

/-- R108: `v <- destuff(b); buf[0] <- v; idx <- 1; dstate <- Data`. -/
def runStartFirst (b : Byte) (s : State) : Result :=
  .next (s.setDec
    { s.dec with dstate := .data, esc := false, idx := 1#4, buf := s.dec.buf.set 0 (destuff s.dec.esc b) }).answerNone

/-- R109: `esc <- 1`. -/
def runDataEsc (s : State) : Result := .next (s.setDec { s.dec with esc := true }).answerNone

/-- R110. -/
def runDataStorePlain (b : Byte) (s : State) : Result := storeData b s

/-- R111. -/
def runDataStoreEscaped (b : Byte) (s : State) : Result := storeData b s

/-- R76: fault, and no state changes. -/
def runDstateInvalid : Result := .fault .unreachableDecoderState

/-! ## Meanings -/

/-- `PB` (R100): forms the key and runs the rule of the first row that matches. -/
def execPb (b : Byte) (s : State) : Result :=
  match selectSport (s.dec.key b) with
  | .idleStart => runIdleStart s
  | .idleDiscard => runIdleDiscard s
  | .startRestart => runStartRestart s
  | .startEsc => runStartEsc s
  | .startFirst => runStartFirst b s
  | .dataEsc => runDataEsc s
  | .dataStorePlain => runDataStorePlain b s
  | .dataStoreEscaped => runDataStoreEscaped b s
  | .dstateInvalid => runDstateInvalid

/-- `IDLE.START` (R104). -/
def execIdleStart (esc : Bool) (s : State) : Result := whenSelected .idleStart esc sportSof s (runIdleStart s)

/-- `IDLE.DISCARD` (R105). -/
def execIdleDiscard (esc : Bool) (b : Byte) (s : State) : Result :=
  whenSelected .idleDiscard esc b s (runIdleDiscard s)

/-- `START.RESTART` (R106). -/
def execStartRestart (esc : Bool) (s : State) : Result :=
  whenSelected .startRestart esc sportSof s (runStartRestart s)

/-- `START.ESC` (R107). -/
def execStartEsc (esc : Bool) (s : State) : Result := whenSelected .startEsc esc sportEsc s (runStartEsc s)

/-- `START.FIRST` (R108). -/
def execStartFirst (esc : Bool) (b : Byte) (s : State) : Result :=
  whenSelected .startFirst esc b s (runStartFirst b s)

/-- `DATA.ESC` (R109). -/
def execDataEsc (s : State) : Result := whenSelected .dataEsc false sportEsc s (runDataEsc s)

/-- `DATA.STORE.PLAIN` (R110). -/
def execDataStorePlain (b : Byte) (s : State) : Result :=
  whenSelected .dataStorePlain false b s (runDataStorePlain b s)

/-- `DATA.STORE.ESCAPED` (R111). -/
def execDataStoreEscaped (b : Byte) (s : State) : Result :=
  whenSelected .dataStoreEscaped true b s (runDataStoreEscaped b s)

/-- `DSTATE.INVALID` (R76). -/
def execDstateInvalid (esc : Bool) (b : Byte) (s : State) : Result :=
  whenSelected .dstateInvalid esc b s runDstateInvalid

/-- `FRAME.CLOSE.OK` (R112): the end of a storing `PB`, where the store has filled the buffer (30_encoding R75). -/
def execFrameCloseOk (s : State) : Result :=
  if s.dec.dstate = .data ∧ selectClose (closeKey s.cfg s.dec) = some .ok then .next (closeOk s)
  else .refused .caseNotSelected

/-- `FRAME.CLOSE.BAD` (R113): as above, with a checksum mismatch. -/
def execFrameCloseBad (s : State) : Result :=
  if s.dec.dstate = .data ∧ selectClose (closeKey s.cfg s.dec) = some .bad then .next (closeBad s)
  else .refused .caseNotSelected

end Sys2Proof.Machine
end

