-- ==== Sys2Proof/Machine/System.lean ====
section
/-! DEFINITION. `RESET` (70_reset R271) and the reserved selector (30_encoding R87). -/

namespace Sys2Proof.Machine

/-- `RESET` (R271): the decoder and the snapshot return to their reset values; `buf` keeps its bytes and `refused` its
value (10_state R38, R43). -/
def execReset (s : State) : Result :=
  .next (((s.setDec { s.dec with dstate := .idle, esc := false, idx := 0#4 }).setSnap Snapshot.reset).answer .ok .nothing)

/-- `RESERVED`, op 7: an illegal encoding, refused (30_encoding R87, 60_exceptions R244). -/
def execReserved (s : State) : Result := .next s.refuse

end Sys2Proof.Machine
end

