-- ==== Sys2Proof/Machine/Dispatch.lean ====
section
/-! DEFINITION. One arm per constructor of `Instr`: the meaning of each row of spec/opcode_table.json. -/

namespace Sys2Proof.Machine

def exec (i : Instr) (s : State) : Host.Outcome State Fault Refusal :=
  match i with
  | .pb b => Sys2Proof.Machine.execPb b s
  | .enc ft p => Sys2Proof.Machine.execEnc ft p s
  | .hb => Sys2Proof.Machine.execHb s
  | .upd p now => Sys2Proof.Machine.execUpd p now s
  | .bld cat now => Sys2Proof.Machine.execBld cat now s
  | .conv p now => Sys2Proof.Machine.execConv p now s
  | .reset => Sys2Proof.Machine.execReset s
  | .reserved => Sys2Proof.Machine.execReserved s
  | .idleStart e => Sys2Proof.Machine.execIdleStart e s
  | .idleDiscard e b => Sys2Proof.Machine.execIdleDiscard e b s
  | .startRestart e => Sys2Proof.Machine.execStartRestart e s
  | .startEsc e => Sys2Proof.Machine.execStartEsc e s
  | .startFirst e b => Sys2Proof.Machine.execStartFirst e b s
  | .dataEsc => Sys2Proof.Machine.execDataEsc s
  | .dataStorePlain b => Sys2Proof.Machine.execDataStorePlain b s
  | .dataStoreEscaped b => Sys2Proof.Machine.execDataStoreEscaped b s
  | .dstateInvalid e b => Sys2Proof.Machine.execDstateInvalid e b s
  | .frameCloseOk => Sys2Proof.Machine.execFrameCloseOk s
  | .frameCloseBad => Sys2Proof.Machine.execFrameCloseBad s
  | .encGps p => Sys2Proof.Machine.execEncGps p s
  | .encVario p => Sys2Proof.Machine.execEncVario p s
  | .encBattery p => Sys2Proof.Machine.execEncBattery p s
  | .encBaro p => Sys2Proof.Machine.execEncBaro p s
  | .encHeartbeatType p => Sys2Proof.Machine.execEncHeartbeatType p s
  | .encRefused ft p => Sys2Proof.Machine.execEncRefused ft p s
  | .bldGps now => Sys2Proof.Machine.execBldGps now s
  | .bldVario now => Sys2Proof.Machine.execBldVario now s
  | .bldBattery now => Sys2Proof.Machine.execBldBattery now s
  | .bldBaro now => Sys2Proof.Machine.execBldBaro now s
  | .bldRefused cat now => Sys2Proof.Machine.execBldRefused cat now s
  | .updGpsCoord sid fid raw now => Sys2Proof.Machine.execUpdGpsCoord sid fid raw now s
  | .updGpsAlt sid fid raw now => Sys2Proof.Machine.execUpdGpsAlt sid fid raw now s
  | .updGpsSpeed sid fid raw now => Sys2Proof.Machine.execUpdGpsSpeed sid fid raw now s
  | .updGpsHeading sid fid raw now => Sys2Proof.Machine.execUpdGpsHeading sid fid raw now s
  | .updVoltage sid fid raw now => Sys2Proof.Machine.execUpdVoltage sid fid raw now s
  | .updCurrent sid fid raw now => Sys2Proof.Machine.execUpdCurrent sid fid raw now s
  | .updFuel sid fid raw now => Sys2Proof.Machine.execUpdFuel sid fid raw now s
  | .updBaroAlt sid fid raw now => Sys2Proof.Machine.execUpdBaroAlt sid fid raw now s
  | .updVario sid fid raw now => Sys2Proof.Machine.execUpdVario sid fid raw now s
  | .updOther p now => Sys2Proof.Machine.execUpdOther p now s

end Sys2Proof.Machine
end

