-- ==== Sys2Proof/Machine/Fetch.lean ====
section
/-! DEFINITION. Taking the next transaction from the port, and placing a table word there.

The block has no program counter and fetches no instructions (10_state R27): its next transaction is the one the host
presents next (10_state R20). -/

namespace Sys2Proof.Machine

/-- What the port gives a step. -/
inductive Fetched
  /-- Nothing is presented: the block holds its state (60_exceptions R258; DEDUCED, notes/assumptions/1.md). -/
  | idle
  /-- The step stops before any transaction. -/
  | stop (r : Refusal)
  /-- A transaction, and the state with the port moved past it. -/
  | run (i : Instr) (s : State)
  deriving DecidableEq, Repr

/-- The configuration check of 00_scope R6 and R7, then the oldest transaction at the port, decoded. -/
def fetch (s : State) : Fetched :=
  if s.cfg.legal then
    match s.port with
    | [] => .idle
    | w :: rest =>
      match decode s.cfg w with
      | .ok i => .run i { s with port := rest }
      | .error e => .stop (.undecodable e)
  else .stop .illegalConfiguration

/-- The word at the port that a table word stands for: the bytes the decoder reads of it. -/
def tableWordAtPort (c : Params) (nbits w : Nat) : List Byte :=
  let bytes := tableWordBytes c nbits w
  match parse c bytes with
  | .ok (_, rest) => bytes.take (bytes.length - rest.length)
  | .error _ => bytes

/-- The decoder in which a close key holds: `Data` with `idx` = 9, and the ninth byte made to match or not to match. -/
def Decoder.forCloseKey (d : Decoder) (c : Params) (matches_ : Bool) : Decoder :=
  let check := chk c.crcVariant (d.buf.toList.take 8)
  { d with dstate := .data, esc := false, idx := 9#4, buf := d.buf.set 8 (if matches_ then check else ~~~check) }

/-- The decoder in which a table word's key is the one formed: the key of format `sport_key` names `dstate` and `esc`
(30_encoding R73), that of format `sport_close` the buffer's state after a store (R75). -/
def Decoder.forInstr (d : Decoder) (c : Params) : Instr → Decoder
  | .idleStart e => { d with dstate := .idle, esc := e }
  | .idleDiscard e _ => { d with dstate := .idle, esc := e }
  | .startRestart e => { d with dstate := .start, esc := e }
  | .startEsc e => { d with dstate := .start, esc := e }
  | .startFirst e _ => { d with dstate := .start, esc := e }
  | .dataEsc => { d with dstate := .data, esc := false }
  | .dataStorePlain _ => { d with dstate := .data, esc := false }
  | .dataStoreEscaped _ => { d with dstate := .data, esc := true }
  | .dstateInvalid e _ => { d with dstate := .invalid, esc := e }
  | .frameCloseOk => d.forCloseKey c true
  | .frameCloseBad => d.forCloseKey c false
  | .pb _ | .enc _ _ | .hb | .upd _ _ | .bld _ _ | .conv _ _ | .reset | .reserved => d
  | .encGps _ | .encVario _ | .encBattery _ | .encBaro _ | .encHeartbeatType _ | .encRefused _ _ => d
  | .bldGps _ | .bldVario _ | .bldBattery _ | .bldBaro _ | .bldRefused _ _ => d
  | .updGpsCoord _ _ _ _ | .updGpsAlt _ _ _ _ | .updGpsSpeed _ _ _ _ | .updGpsHeading _ _ _ _ => d
  | .updVoltage _ _ _ _ | .updCurrent _ _ _ _ | .updFuel _ _ _ _ | .updBaroAlt _ _ _ _ | .updVario _ _ _ _ => d
  | .updOther _ _ => d

/-- The state whose next step runs the instruction of a table word: the word is presented first, and for a case of `PB`
the decoder stands where its key is formed (notes/assumptions/13.md). -/
def placeTableWord (s : State) (nbits w : Nat) : State :=
  let word := tableWordAtPort s.cfg nbits w
  let dec := match decode s.cfg word with
    | .ok i => s.dec.forInstr s.cfg i
    | .error _ => s.dec
  { s with dec := dec, port := word :: s.port }

end Sys2Proof.Machine
end

