-- ==== Sys2Proof/Machine/Step.lean ====
section
/-! DEFINITION. One step: the next transaction at the port, run to its end (10_state R20, 20_memory R57). -/

namespace Sys2Proof.Machine

/-- One step: takes the next transaction from the port and runs it; with nothing presented the block holds its state. -/
def step (s : State) : Host.Outcome State Fault Refusal :=
  match fetch s with
  | .idle => .next s
  | .stop r => .refused r
  | .run i s' => exec i s'

/-- `s` with the instruction of a word of opcode_table.json presented next. -/
def State.withFetchWord (s : State) (nbits w : Nat) : State := placeTableWord s nbits w

end Sys2Proof.Machine
end

