-- ==== Sys2Proof/Machine/HostLoop.lean ====
section
/-! DEFINITION. What stands outside the block and drives it: the stuffing a sender does (30_encoding R78), the
pseudo-transactions of R91 and the host loop of 70_reset R273. No step uses these: they are the vocabulary in which
statements about streams of bytes are made (notes/assumptions/24.md). -/

namespace Sys2Proof.Machine

/-- How a sender stuffs one frame byte (30_encoding R78). -/
def stuffByte (b : Byte) : List Byte :=
  if b = 0x7E#8 then [0x7D#8, 0x5E#8] else if b = 0x7D#8 then [0x7D#8, 0x5D#8] else [b]

/-- A stuffed byte sequence (30_encoding R78). -/
def stuff (bytes : List Byte) : List Byte := bytes.flatMap stuffByte

/-- A frame on the wire: the start marker, then the frame bytes, each one stuffed (30_encoding R77). -/
def wireFrame (frameBytes : List Byte) : List Byte := sportSof :: stuff frameBytes

/-- The nine frame bytes of a packet, the last one the checksum (30_encoding R80). -/
def sportFrame (v : CrcVariant) (p : SensorPacket) : List Byte := packetBytes p ++ [chk v (packetBytes p)]

/-- `pbs` (30_encoding R91). -/
def pbs (bytes : List Byte) : List Instr := bytes.map .pb

/-- `sport` (30_encoding R91). -/
def sport (v : CrcVariant) (p : SensorPacket) : List Instr := pbs (wireFrame (sportFrame v p))

/-- Runs transactions one after the other and collects what each answers; none where one of them stops. -/
def runTxns : List Instr → State → Option (State × List (Option Report))
  | [], s => some (s, [])
  | i :: is, s =>
    match exec i s with
    | .next s' => (runTxns is s').map fun r => (r.1, s'.report :: r.2)
    | .fault _ => none
    | .refused _ => none

/-- The packet on the output port, where the last transaction was a `PB` that returned `PACKET`. -/
def packetAnswered (s : State) : Option SensorPacket :=
  match s.report with
  | some ⟨_, .decoded .packet (some p)⟩ => some p
  | _ => none

/-- `pbconv` (30_encoding R91): one byte, and `CONV` of the packet where the `PB` returned `PACKET`. -/
def pbconv (b : Byte) (now : Timestamp) (s : State) : Result :=
  match exec (.pb b) s with
  | .next s' =>
    match packetAnswered s' with
    | some p => exec (.conv p now) s'
    | none => .next s'
  | .fault r => .fault r
  | .refused r => .refused r

/-- The inner loop of 70_reset R273: drains the bytes the source gave, each with the clock's reading. -/
def hostDrain : List (Byte × Timestamp) → State → Result
  | [], s => .next s
  | (b, now) :: rest, s =>
    match pbconv b now s with
    | .next s' => hostDrain rest s'
    | .fault r => .fault r
    | .refused r => .refused r

/-- `if heartbeat_due(Now()) then transmit(HB().bytes)` (70_reset R273): the host, not the block, calls the sink. -/
def hostHeartbeat (due : Bool) (s : State) : Result :=
  if due then
    match exec .hb s with
    | .next s' =>
      match s'.report with
      | some ⟨_, .frame f⟩ => .next (s'.transmit f)
      | _ => .next s'
    | .fault r => .fault r
    | .refused r => .refused r
  else .next s

/-- One iteration of the host loop (70_reset R273). -/
def hostIteration (bytes : List (Byte × Timestamp)) (due : Bool) (s : State) : Result :=
  match hostDrain bytes s with
  | .next s' => hostHeartbeat due s'
  | .fault r => .fault r
  | .refused r => .refused r

end Sys2Proof.Machine
end

