-- ==== Sys2Proof/Safety.lean ====
section
/-! DEFINITION. What a safe state of the block is, in the terms statements use. -/

namespace Sys2Proof.Machine

/-- The parts of the block a transaction belongs to (00_scope R3, 30_encoding R70). -/
inductive Family
  /-- `PB` and its rows: the S.PORT decoder (40_sport). -/
  | decoder
  /-- `ENC`, its rows and `HB`: the CRSF encoder (41_crsf). -/
  | encoder
  /-- `UPD` and its rows: the sensor field unpacker (42_sensor_unpack). -/
  | unpacker
  /-- `BLD` and its rows: the outbound packer (43_outbound_pack). -/
  | packer
  /-- `CONV` (43_outbound_pack R218). -/
  | convert
  /-- `RESET` (70_reset R271). -/
  | reset
  /-- The reserved selector (30_encoding R87). -/
  | reserved
  deriving DecidableEq, Repr

/-- The part of the block an instruction belongs to. -/
def familyOf : Instr → Family
  | .pb _ | .idleStart _ | .idleDiscard _ _ | .startRestart _ | .startEsc _ | .startFirst _ _ | .dataEsc => .decoder
  | .dataStorePlain _ | .dataStoreEscaped _ | .dstateInvalid _ _ | .frameCloseOk | .frameCloseBad => .decoder
  | .enc _ _ | .hb | .encGps _ | .encVario _ | .encBattery _ | .encBaro _ | .encHeartbeatType _ => .encoder
  | .encRefused _ _ => .encoder
  | .upd _ _ | .updGpsCoord _ _ _ _ | .updGpsAlt _ _ _ _ | .updGpsSpeed _ _ _ _ => .unpacker
  | .updGpsHeading _ _ _ _ | .updVoltage _ _ _ _ | .updCurrent _ _ _ _ | .updFuel _ _ _ _ => .unpacker
  | .updBaroAlt _ _ _ _ | .updVario _ _ _ _ | .updOther _ _ => .unpacker
  | .bld _ _ | .bldGps _ | .bldVario _ | .bldBattery _ | .bldBaro _ | .bldRefused _ _ => .packer
  | .conv _ _ => .convert
  | .reset => .reset
  | .reserved => .reserved

/-- The identifier row an instruction updates under: of an `UPD` or `CONV` the row its `data_id` selects
(30_encoding R82), of a row of format `sport_data_id` itself. -/
def updRowOf (c : Params) : Instr → Option UpdRow
  | .upd p _ | .conv p _ => some (selectUpd c p.dataId)
  | .updGpsCoord _ _ _ _ => some .gpsCoord
  | .updGpsAlt _ _ _ _ => some .gpsAlt
  | .updGpsSpeed _ _ _ _ => some .gpsSpeed
  | .updGpsHeading _ _ _ _ => some .gpsHeading
  | .updVoltage _ _ _ _ => some .voltage
  | .updCurrent _ _ _ _ => some .current
  | .updFuel _ _ _ _ => some .fuel
  | .updBaroAlt _ _ _ _ => some .baroAlt
  | .updVario _ _ _ _ => some .vario
  | .updOther _ _ => some .other
  | .pb _ | .idleStart _ | .idleDiscard _ _ | .startRestart _ | .startEsc _ | .startFirst _ _ | .dataEsc => none
  | .dataStorePlain _ | .dataStoreEscaped _ | .dstateInvalid _ _ | .frameCloseOk | .frameCloseBad => none
  | .enc _ _ | .hb | .encGps _ | .encVario _ | .encBattery _ | .encBaro _ | .encHeartbeatType _ => none
  | .encRefused _ _ | .bld _ _ | .bldGps _ | .bldVario _ | .bldBattery _ | .bldBaro _ | .bldRefused _ _ => none
  | .reset | .reserved => none

/-- The timestamp operand of an instruction, 0 where it has none. -/
def nowOf : Instr → Timestamp
  | .upd _ now | .conv _ now | .bld _ now | .bldGps now | .bldVario now | .bldBattery now | .bldBaro now => now
  | .bldRefused _ now | .updOther _ now => now
  | .updGpsCoord _ _ _ now | .updGpsAlt _ _ _ now | .updGpsSpeed _ _ _ now | .updGpsHeading _ _ _ now => now
  | .updVoltage _ _ _ now | .updCurrent _ _ _ now | .updFuel _ _ _ now => now
  | .updBaroAlt _ _ _ now | .updVario _ _ _ now => now
  | .pb _ | .idleStart _ | .idleDiscard _ _ | .startRestart _ | .startEsc _ | .startFirst _ _ | .dataEsc => 0
  | .dataStorePlain _ | .dataStoreEscaped _ | .dstateInvalid _ _ | .frameCloseOk | .frameCloseBad => 0
  | .enc _ _ | .hb | .encGps _ | .encVario _ | .encBattery _ | .encBaro _ | .encHeartbeatType _ => 0
  | .encRefused _ _ | .reset | .reserved => 0

/-- What a transaction answers on the output port, where it completes. -/
def answered : Host.Outcome State Fault Refusal → Option Report
  | .next t => t.report
  | .fault _ => none
  | .refused _ => none

/-- The block state `(dec, snap, refused)` (10_state R21), without the ports and the parameters. -/
def State.block (s : State) : Decoder × Snapshot × Bool := (s.dec, s.snap, s.refused)

/-- The invariants of the decoder state, which hold after every transaction (10_state R26); with them the unwritten
code 3 of `dstate` (R22). -/
abbrev Decoder.Inv (d : Decoder) : Prop :=
  d.dstate ≠ .invalid ∧
  (d.dstate = .start → d.idx = 0#4) ∧
  (d.dstate = .data → 1#4 ≤ d.idx ∧ d.idx ≤ 8#4) ∧
  (d.dstate = .idle → (d.idx = 0#4 ∨ d.idx = 9#4) ∧ d.esc = false)

/-- A category no update has reached holds its reset values (10_state R30, R35), the two fields no rule writes stay 0
(42_sensor_unpack R182), and every timestamp fits `TS_BITS` (00_scope R9). -/
abbrev Snapshot.Inv (c : Params) (snap : Snapshot) : Prop :=
  (snap.gps.valid = false → snap.gps = Snapshot.reset.gps) ∧
  (snap.bat.valid = false → snap.bat = Snapshot.reset.bat) ∧
  (snap.baro.valid = false → snap.baro = Snapshot.reset.baro) ∧
  (snap.vario.valid = false → snap.vario = Snapshot.reset.vario) ∧
  snap.gps.satelliteCount = 0#8 ∧ snap.bat.capacityUsedMah = 0#32 ∧
  (∀ cat : Category, snap.lastUpdateOf cat < 2 ^ c.tsBits)

/-- A frame as 30_encoding R83 lays it out: sync, `frame_length` = total - 2, the CRC-8 of what lies between, 5 to 19
bytes in all (20_memory R56), and `length` the number of bytes (41_crsf R150). -/
abbrev OutboundFrame.Ok (f : OutboundFrame) : Prop :=
  f.bytes.length = f.length.toNat ∧ 5 ≤ f.bytes.length ∧ f.bytes.length ≤ 19 ∧
  f.bytes[0]? = some crsfSync ∧ f.bytes[1]? = some (f.length - 2#8) ∧
  f.bytes.getLast? = some (crc8 ((f.bytes.drop 2).dropLast))

/-- A frame on the output port is a frame of R83. -/
def Report.FrameOk (r : Report) : Prop :=
  match r.result with
  | .frame f => f.Ok
  | .converted (some f) => f.Ok
  | .nothing | .decoded _ _ | .encodeError _ | .payload _ | .converted none => True

/-- The invariant of the machine: a legal configuration, the decoder's and the snapshot's invariants, and every frame
answered or transmitted laid out as R83 says. -/
structure State.Inv (s : State) : Prop where
  legal : s.cfg.legal = true
  dec : s.dec.Inv
  snap : s.snap.Inv s.cfg
  report : ∀ r, s.report = some r → r.FrameOk
  sink : ∀ f ∈ s.sink, f.Ok

/-- A state a claim about a run may speak of: the invariant holds and no transaction was refused
(10_state R38, 60_exceptions R244). -/
def State.Safe (s : State) : Prop := s.Inv ∧ s.refused = false

end Sys2Proof.Machine
end

