-- ==== Sys2Proof/Certificates/Slice0/Obligations.lean ====
section
/-! DEFINITION. The statements about the block that the provers settle.

Each docstring names the rule of spec/ the statement follows. "D<n>" is a decision of spec/92_eei_decisions.md: a
behaviour the spec marks as its own choice. "log n" is notes/assumptions/n.md: a choice of the model.
An outcome code beside a result (`OutcomeCode`) is the spec's numbering (60_exceptions R240, D7). -/

open Sys2Proof Sys2Proof.Machine

/-! ## Reset, configuration and the step -/

/-- 10_state R43 and 70_reset R270, the values after power-on. The contents of `buf`, of the parameters and of the
ports are the model's choices (logs 1, 5, 7, 8, 9) and are left out. -/
def Obligations.PowerOnStateIsTheSpecs : Prop :=
  State.reset.dec.dstate = .idle ∧ State.reset.dec.esc = false ∧ State.reset.dec.idx = 0#4 ∧
  State.reset.snap.gps = ⟨0#32, 0#32, 0#32, 0#32, 0#32, 0#8, false, 0⟩ ∧
  State.reset.snap.bat = ⟨0#32, 0#32, 0#32, 0#8, false, 0⟩ ∧
  State.reset.snap.baro = ⟨0#32, false, 0⟩ ∧
  State.reset.snap.vario = ⟨0#16, false, 0⟩ ∧
  State.reset.refused = false

/-- 10_state R20 and 20_memory R57: a step takes the oldest transaction at the port and runs it whole; 60_exceptions
R258: with nothing presented the block holds its state.
The port is the model's rendering of "in the order the host presents them" (log 1); that a word of no transaction is
refused, with the reason the decoder gives, is the model's choice (log 14). -/
def Obligations.StepRunsTheDecodedInstruction : Prop :=
  (∀ (s : State) (i : Instr) (w : List Byte) (rest : List (List Byte)),
    s.cfg.legal = true → s.port = w :: rest → decode s.cfg w = .ok i →
    step s = exec i { s with port := rest }) ∧
  (∀ (s : State) (e : DecodeError) (w : List Byte) (rest : List (List Byte)),
    s.cfg.legal = true → s.port = w :: rest → decode s.cfg w = .error e → step s = .refused (.undecodable e)) ∧
  (∀ s : State, s.cfg.legal = true → s.port = [] → step s = .next s)

/-- 00_scope R6 (D13) and R7 (D18, D29): a configuration with two equal identifiers, or with a timeout outside
`0 <= T < 2^TS_BITS`, is refused before any transaction (log 6), and no other configuration is. -/
def Obligations.IllegalConfigurationsAreRefused : Prop :=
  ∀ s : State,
    (step s = .refused .illegalConfiguration ↔
      ((∃ j k : Fin 9, j ≠ k ∧ s.cfg.ids[j.val]? = s.cfg.ids[k.val]?) ∨ 2 ^ s.cfg.tsBits ≤ s.cfg.stalenessTimeout))

/-- 00_scope R5: no transaction changes a parameter; and none touches the port. -/
def Obligations.ParametersNeverChange : Prop :=
  ∀ (i : Instr) (s t : State), exec i s = .next t → t.cfg = s.cfg ∧ t.port = s.port

/-! ## Encoding -/

/-- Words written out from 30_encoding R70, R74, R75, R82 and R85 in the model's layout (log 2), one or more per format,
under the default parameters. -/
def Obligations.WrittenOutWordsDecode : Prop :=
  decode Params.default [0x00#8, 0x7E#8] = .ok (.pb 0x7E#8) ∧
  decode Params.default [0x02#8] = .ok .hb ∧
  decode Params.default [0x06#8] = .ok .reset ∧
  decode Params.default [0x07#8] = .ok .reserved ∧
  decode Params.default [0x08#8, 0x7E#8, 0x02#8] = .ok (.startRestart false) ∧
  decode Params.default [0x08#8, 0x5E#8, 0x05#8] = .ok (.dataStoreEscaped 0x5E#8) ∧
  decode Params.default [0x10#8, 0x03#8] = .ok .frameCloseOk ∧
  decode Params.default [0x18#8, 0x07#8, 0x01#8, 0xCE#8, 0xFF#8] = .ok (.encVario (.vario 0xFFCE#16)) ∧
  decode Params.default [0x20#8, 0x09#8, 0x0A#8, 0x00#8, 0x00#8, 0x00#8] = .ok (.bldBaro 10) ∧
  decode Params.default [0x28#8, 0x10#8, 0x02#8, 0x98#8, 0x10#8, 0x7E#8, 0x00#8, 0x00#8, 0x00#8, 0x05#8, 0x00#8, 0x00#8,
    0x00#8] = .ok (.updVoltage 0x98#8 0x10#8 126#32 5)

/-- Decoding the word of a well-formed instruction gives it back, with every operand at every value, for every
instruction and every legal configuration. The layout is the model's (log 2), the keys 30_encoding's. -/
def Obligations.DecodeEncodeRoundTrip : Prop :=
  ∀ (c : Params) (i : Instr), c.legal = true → i.wellFormed c = true → decode c (encode c i) = .ok i

/-- Every word the decoder accepts is the encoding of the well-formed instruction it stands for: each word has one
meaning and no bit of it is dropped (layout: log 2). -/
def Obligations.AcceptedWordsAreEncodings : Prop :=
  ∀ (c : Params) (w : List Byte) (i : Instr), decode c w = .ok i → i.wellFormed c = true ∧ encode c i = w

/-- 30_encoding R72 and R92 (D24): a case row runs exactly as the transaction whose key selects it, the decoder key
formed from the state before the transaction (R73). -/
def Obligations.CaseRowsRunAsTheirTransaction : Prop :=
  ∀ s : State,
    (∀ b, exec (sportInstr (decoderKey s.dec.dstate.code s.dec.esc b)) s = exec (.pb b) s) ∧
    (∀ ft p, exec (crsfInstr ft p) s = exec (.enc ft p) s) ∧
    (∀ cat now, exec (bldInstr cat now) s = exec (.bld cat now) s) ∧
    (∀ p now, exec (updInstr s.cfg p now) s = exec (.upd p now) s)

/-- 30_encoding R72: a row of the decoder has no effect where the dispatch selects another; that it then stops, as
`caseNotSelected`, is the model's choice (log 3). Format `sport_key`: the key formed (R73) is another, or the byte is one
that an earlier row takes (R74). Format `sport_close`: no store has filled the buffer, or the checksum says the other
close (R75). -/
def Obligations.UnselectedDecoderRowsStop : Prop :=
  (∀ (s : State) (key : BitVec 11),
    key ≠ decoderKey s.dec.dstate.code s.dec.esc (key.setWidth 8) →
    exec (sportInstr key) s = .refused .caseNotSelected) ∧
  (∀ (s : State) (e : Bool),
    exec (.idleDiscard e 0x7E#8) s = .refused .caseNotSelected ∧
    exec (.startFirst e 0x7E#8) s = .refused .caseNotSelected ∧
    exec (.startFirst e 0x7D#8) s = .refused .caseNotSelected ∧
    exec (.dataStorePlain 0x7D#8) s = .refused .caseNotSelected) ∧
  (∀ s : State,
    (s.dec.dstate ≠ .data ∨ s.dec.idx ≠ 9#4 ∨ chk s.cfg.crcVariant (s.dec.buf.toList.take 8) ≠ s.dec.buf[8]) →
    exec .frameCloseOk s = .refused .caseNotSelected) ∧
  (∀ s : State,
    (s.dec.dstate ≠ .data ∨ s.dec.idx ≠ 9#4 ∨ chk s.cfg.crcVariant (s.dec.buf.toList.take 8) = s.dec.buf[8]) →
    exec .frameCloseBad s = .refused .caseNotSelected)

/-- 30_encoding R72 with R82 and R85: `ENC.REFUSED`, `BLD.REFUSED` and `UPD.OTHER`, each the last row of its format, have
no effect where an earlier row takes the key; that they then stop, as `caseNotSelected`, is the model's choice (log 3).
The other rows of these formats have their whole key fixed, so no operand of theirs selects another row. -/
def Obligations.UnselectedLastRowsStop : Prop :=
  (∀ (s : State) (ft : Byte) (p : Payload), ft ∈ [0x02#8, 0x07#8, 0x08#8, 0x09#8, 0x0B#8] →
    exec (.encRefused ft p) s = .refused .caseNotSelected) ∧
  (∀ (s : State) (cat : Byte) (now : Timestamp), cat ∈ [0x02#8, 0x07#8, 0x08#8, 0x09#8] →
    exec (.bldRefused cat now) s = .refused .caseNotSelected) ∧
  (∀ (s : State) (p : SensorPacket) (now : Timestamp),
    p.dataId ∈ [0x0800#16, s.cfg.idGpsAlt, s.cfg.idGpsSpeed, s.cfg.idGpsHeading, s.cfg.idVoltage, s.cfg.idCurrent,
      s.cfg.idFuel, s.cfg.idBaroAlt, s.cfg.idVario] →
    exec (.updOther p now) s = .refused .caseNotSelected)

/-! ## The S.PORT decoder -/

/-- 40_sport R104. -/
def Obligations.StartMarkerInIdleStartsAFrame : Prop :=
  ∀ s : State, s.dec.dstate = .idle →
    let t : State := { s with
      dec := { s.dec with dstate := .start, idx := 0#4, esc := false }
      report := some ⟨.ok, .decoded .none none⟩ }
    exec (.pb 0x7E#8) s = .next t ∧ exec (.idleStart s.dec.esc) s = .next t

/-- 40_sport R105. -/
def Obligations.OtherBytesInIdleAreDropped : Prop :=
  ∀ (s : State) (b : Byte), s.dec.dstate = .idle → b ≠ 0x7E#8 →
    let t : State := { s with report := some ⟨.ok, .decoded .none none⟩ }
    exec (.pb b) s = .next t ∧ exec (.idleDiscard s.dec.esc b) s = .next t

/-- 40_sport R106 (D5): both values of `START_RESTART_CLEARS_ESC`. -/
def Obligations.StartMarkerInStartRestartsTheFrame : Prop :=
  ∀ s : State, s.dec.dstate = .start →
    let t : State := { s with
      dec := { s.dec with idx := 0#4, esc := if s.cfg.restartClearsEsc then false else s.dec.esc }
      report := some ⟨.ok, .decoded .none none⟩ }
    exec (.pb 0x7E#8) s = .next t ∧ exec (.startRestart s.dec.esc) s = .next t

/-- 40_sport R107. -/
def Obligations.EscapeMarkerInStartSetsThePendingEscape : Prop :=
  ∀ s : State, s.dec.dstate = .start →
    let t : State := { s with
      dec := { s.dec with esc := true }
      report := some ⟨.ok, .decoded .none none⟩ }
    exec (.pb 0x7D#8) s = .next t ∧ exec (.startEsc s.dec.esc) s = .next t

/-- 40_sport R108, R101: the byte is de-stuffed, stored at index 0, and the machine moves to `Data`. That a pending
escape is used up by this byte (`esc` is 0 after it) is the spec's own choice D4 (log 17). -/
def Obligations.FirstFrameByteIsDestuffedAndStored : Prop :=
  ∀ (s : State) (b : Byte), s.dec.dstate = .start → b ≠ 0x7E#8 → b ≠ 0x7D#8 →
    let v := if s.dec.esc then (if b = 0x5E#8 then 0x7E#8 else if b = 0x5D#8 then 0x7D#8 else b) else b
    let t : State := { s with
      dec := { dstate := .data, esc := false, idx := 1#4, buf := s.dec.buf.set 0 v }
      report := some ⟨.ok, .decoded .none none⟩ }
    exec (.pb b) s = .next t ∧ exec (.startFirst s.dec.esc b) s = .next t

/-- 40_sport R109. -/
def Obligations.EscapeMarkerInDataIsNotStored : Prop :=
  ∀ s : State, s.dec.dstate = .data → s.dec.esc = false →
    let t : State := { s with
      dec := { s.dec with esc := true }
      report := some ⟨.ok, .decoded .none none⟩ }
    exec (.pb 0x7D#8) s = .next t ∧ exec .dataEsc s = .next t

/-- 40_sport R110: the byte is stored at `idx`, `idx` goes up by 1, and at 9 the frame closes by its checksum
(`closeOk` and `closeBad` are the close cases, stated below). -/
def Obligations.PlainBytesInDataAreStored : Prop :=
  ∀ (s : State) (b : Byte), s.dec.dstate = .data → s.dec.esc = false → b ≠ 0x7D#8 → s.dec.idx.toNat ≤ 8 →
    let u : State := { s with
      dec := { s.dec with idx := s.dec.idx + 1#4, buf := s.dec.buf.setIfInBounds s.dec.idx.toNat b } }
    let t : State :=
      if s.dec.idx = 8#4 then
        (if chk s.cfg.crcVariant (s.dec.buf.toList.take 8) = b then closeOk u else closeBad u)
      else { u with report := some ⟨.ok, .decoded .none none⟩ }
    exec (.pb b) s = .next t ∧ exec (.dataStorePlain b) s = .next t

/-- 40_sport R111 (D4, log 17): the byte is de-stuffed, which uses up the pending escape, and stored. -/
def Obligations.EscapedBytesInDataAreDestuffedAndStored : Prop :=
  ∀ (s : State) (b : Byte), s.dec.dstate = .data → s.dec.esc = true → s.dec.idx.toNat ≤ 8 →
    let v := if b = 0x5E#8 then 0x7E#8 else if b = 0x5D#8 then 0x7D#8 else b
    let u : State := { s with
      dec := { s.dec with esc := false, idx := s.dec.idx + 1#4,
                          buf := s.dec.buf.setIfInBounds s.dec.idx.toNat v } }
    let t : State :=
      if s.dec.idx = 8#4 then
        (if chk s.cfg.crcVariant (s.dec.buf.toList.take 8) = v then closeOk u else closeBad u)
      else { u with report := some ⟨.ok, .decoded .none none⟩ }
    exec (.pb b) s = .next t ∧ exec (.dataStoreEscaped b) s = .next t

/-- 30_encoding R81, and 40_sport R112 (D8: `idx` keeps 9): a good close returns the packet whose fields are the
de-stuffed bytes, little-endian, and goes to `Idle`. -/
def Obligations.GoodCloseAssemblesThePacket : Prop :=
  ∀ s : State, s.dec.dstate = .data → s.dec.idx = 9#4 →
    chk s.cfg.crcVariant (s.dec.buf.toList.take 8) = s.dec.buf[8] →
    let p : SensorPacket := {
      sensorId := s.dec.buf[0]
      frameId := s.dec.buf[1]
      dataId := s.dec.buf[2].setWidth 16 ||| (s.dec.buf[3].setWidth 16 <<< 8)
      rawValue := s.dec.buf[4].setWidth 32 ||| (s.dec.buf[5].setWidth 32 <<< 8) ||| (s.dec.buf[6].setWidth 32 <<< 16)
        ||| (s.dec.buf[7].setWidth 32 <<< 24) }
    let t : State := { s with dec := { s.dec with dstate := .idle }, report := some ⟨.ok, .decoded .packet (some p)⟩ }
    closeOk s = t ∧ exec .frameCloseOk s = .next t

/-- 40_sport R113: the frame is dropped, `CRC_ERROR` is reported, the decoder is `Idle`, the snapshot is not touched. -/
def Obligations.BadCloseDropsTheFrame : Prop :=
  ∀ s : State, s.dec.dstate = .data → s.dec.idx = 9#4 →
    chk s.cfg.crcVariant (s.dec.buf.toList.take 8) ≠ s.dec.buf[8] →
    let t : State := { s with
      dec := { s.dec with dstate := .idle }
      report := some ⟨.frameIntegrity, .decoded .crcError none⟩ }
    closeBad s = t ∧ exec .frameCloseBad s = .next t

/-- 40_sport R115, with what R110 and R111 say of a store and R112 and R113 of the ninth byte: a start marker in `Data`
is stored as data, and the decoder does not resync. That a pending escape is used up by it is the spec's own choice D4
(log 17). -/
def Obligations.StartMarkerInDataIsData : Prop :=
  ∀ s : State, s.dec.dstate = .data → s.dec.idx.toNat ≤ 8 →
    ∃ t : State, exec (.pb 0x7E#8) s = .next t ∧ t.dec.buf[s.dec.idx.toNat]? = some 0x7E#8 ∧
      t.dec.idx = s.dec.idx + 1#4 ∧ t.dec.esc = false ∧
      t.dec.dstate = (if s.dec.idx = 8#4 then .idle else .data)

/-- 30_encoding R76 and 60_exceptions R250 (D3): every `PB` in `dstate` = 3 faults, and this is the only fault of any
instruction in any state. 20_memory R51: no store lands outside `buf[0..8]`; that a store with `idx` above 8 stops, as a
refusal of its own name, is the model's choice (log 12). -/
def Obligations.UnreachableDecoderStatesFault : Prop :=
  (∀ (s : State) (b : Byte), s.dec.dstate = .invalid →
    exec (.pb b) s = .fault .unreachableDecoderState ∧
    exec (.dstateInvalid s.dec.esc b) s = .fault .unreachableDecoderState) ∧
  (∀ (s : State) (b : Byte), s.dec.dstate = .data → 9 ≤ s.dec.idx.toNat → s.dec.esc = false → b ≠ 0x7D#8 →
    exec (.pb b) s = .refused .bufferIndexOutOfRange ∧
    exec (.dataStorePlain b) s = .refused .bufferIndexOutOfRange) ∧
  (∀ (s : State) (b : Byte), s.dec.dstate = .data → 9 ≤ s.dec.idx.toNat → s.dec.esc = true →
    exec (.pb b) s = .refused .bufferIndexOutOfRange ∧
    exec (.dataStoreEscaped b) s = .refused .bufferIndexOutOfRange) ∧
  (∀ (i : Instr) (s : State) (r : Fault), exec i s = .fault r →
    r = .unreachableDecoderState ∧ s.dec.dstate = .invalid ∧
    ((∃ b, i = .pb b) ∨ ∃ e b, i = .dstateInvalid e b))

/-- The frame of `PB` and its rows (20_memory R56, R58; 40_sport R104 to R113): the snapshot, the mark and the sink are
unchanged, and so is every byte of `buf` but the one at the index stored to. -/
def Obligations.DecoderRowsLeaveTheRest : Prop :=
  ∀ (i : Instr) (s t : State), familyOf i = .decoder → exec i s = .next t →
    t.snap = s.snap ∧ t.refused = s.refused ∧ t.sink = s.sink ∧
    ∀ j : Fin 9,
      (s.dec.dstate = .start → j.val ≠ 0) → (s.dec.dstate = .data → j.val ≠ s.dec.idx.toNat) →
      t.dec.buf[j] = s.dec.buf[j]

/-- 40_sport R114: a packet comes out only of the close, on the transaction that stores the ninth byte. 40_sport R112 and
R113 and 10_state R26: the close leaves `Idle` with `esc` 0; that it leaves `idx` at 9 is the spec's own choice D8
(log 17). -/
def Obligations.PacketsComeOnlyFromAClose : Prop :=
  ∀ (b : Byte) (s t : State) (o : OutcomeCode) (e : DecodeEvent) (p : Option SensorPacket),
    exec (.pb b) s = .next t → t.report = some ⟨o, .decoded e p⟩ →
    (p.isSome ↔ e = .packet) ∧
    (e ≠ .none → s.dec.dstate = .data ∧ s.dec.idx = 8#4 ∧ t.dec.idx = 9#4 ∧ t.dec.dstate = .idle ∧ t.dec.esc = false)

/-- 40_sport R119: in a state of the decoder's invariant every byte is accepted, and from `Data` at most `2*(9-idx)`
more bytes reach a close, where the decoder is `Idle`. -/
def Obligations.DecoderNeverDeadlocks : Prop :=
  ∀ s : State, s.dec.Inv →
    (∀ b : Byte, ∃ t : State, exec (.pb b) s = .next t) ∧
    (s.dec.dstate = .data → ∀ bytes : List Byte, bytes.length = 2 * (9 - s.dec.idx.toNat) →
      ∃ k ≤ bytes.length, ∃ (t : State) (answers : List (Option Report)),
        runTxns (pbs (bytes.take k)) s = some (t, answers) ∧ t.dec.dstate = .idle)

/-- 40_sport R118 (with 30_encoding R78, R80, R81): the nine bytes of a packet and a check byte, stuffed and preceded by
the start marker, fed from `Idle` one byte at a time, answer `NONE` on every byte but the last; the last answers exactly
that packet where the check byte is the packet's checksum, and `CRC_ERROR` with no packet where it is not.
Nothing but the decoder and the output port changes. -/
def Obligations.StuffedFramesDecodeExactly : Prop :=
  ∀ (s : State) (p : SensorPacket) (check : Byte), s.dec.dstate = .idle →
    let wire := wireFrame (packetBytes p ++ [check])
    let last : Report :=
      if check = chk s.cfg.crcVariant (packetBytes p) then ⟨.ok, .decoded .packet (some p)⟩
      else ⟨.frameIntegrity, .decoded .crcError none⟩
    ∃ t : State,
      runTxns (pbs wire) s
        = some (t, List.replicate (wire.length - 1) (some ⟨.ok, .decoded .none none⟩) ++ [some last]) ∧
      t.dec.dstate = .idle ∧ t.dec.esc = false ∧ t.dec.buf.toList = packetBytes p ++ [check] ∧
      t.snap = s.snap ∧ t.refused = s.refused ∧ t.sink = s.sink ∧ t.cfg = s.cfg

/-- 40_sport R102 and R103 (D6), their closed forms. The masked checksum is the complement of the sum of the bytes mod
256. The end-around-carry checksum is the complement of the sum mod 255, a sum above 0 that 255 divides counting as
0xFF. The two agree where the sum does not pass 0xFF (R103). -/
def Obligations.ChecksumClosedForms : Prop :=
  (∀ bytes : List Byte, (chk .masked bytes).toNat = 0xFF - (bytes.map BitVec.toNat).sum % 256) ∧
  (∀ bytes : List Byte, (bytes.map BitVec.toNat).sum ≤ 0xFF →
    chk .endAroundCarry bytes = chk .masked bytes) ∧
  (∀ bytes : List Byte,
    let sum := (bytes.map BitVec.toNat).sum
    (chk .endAroundCarry bytes).toNat = 0xFF - (if sum = 0 then 0 else (sum - 1) % 255 + 1))

/-! ## The CRSF encoder -/

/-- What the CRC-8 of 41_crsf R140 is for (D9, log 16): a check byte verifies exactly where it is the CRC of the bytes
before it, and changing one byte changes the CRC. -/
def Obligations.CrcVerifiesAndSeesOneChangedByte : Prop :=
  (∀ (bytes : List Byte) (x : Byte), crc8 (bytes ++ [x]) = 0#8 ↔ x = crc8 bytes) ∧
  (∀ (before after : List Byte) (a b : Byte), a ≠ b → crc8 (before ++ a :: after) ≠ crc8 (before ++ b :: after))

/-- 41_crsf R143: the GPS frame, byte by byte. -/
def Obligations.GpsFrameBytes : Prop :=
  ∀ (s : State) (lat lon : Word) (gs hdg alt : Half) (sat : Byte),
    let body : List Byte := [0x02#8,
      lat.extractLsb' 24 8, lat.extractLsb' 16 8, lat.extractLsb' 8 8, lat.extractLsb' 0 8,
      lon.extractLsb' 24 8, lon.extractLsb' 16 8, lon.extractLsb' 8 8, lon.extractLsb' 0 8,
      gs.extractLsb' 8 8, gs.extractLsb' 0 8, hdg.extractLsb' 8 8, hdg.extractLsb' 0 8,
      alt.extractLsb' 8 8, alt.extractLsb' 0 8, sat]
    let t : State := { s with
      report := some ⟨.ok, .frame ⟨[0xC8#8, 0x11#8] ++ body ++ [crc8 body], 19#8⟩⟩ }
    exec (.enc 0x02#8 (.gps lat lon gs hdg alt sat)) s = .next t ∧
    exec (.encGps (.gps lat lon gs hdg alt sat)) s = .next t

/-- 41_crsf R144: the vario frame, byte by byte. -/
def Obligations.VarioFrameBytes : Prop :=
  ∀ (s : State) (vs : Half),
    let body : List Byte := [0x07#8, vs.extractLsb' 8 8, vs.extractLsb' 0 8]
    let t : State := { s with
      report := some ⟨.ok, .frame ⟨[0xC8#8, 0x04#8] ++ body ++ [crc8 body], 6#8⟩⟩ }
    exec (.enc 0x07#8 (.vario vs)) s = .next t ∧ exec (.encVario (.vario vs)) s = .next t

/-- 41_crsf R145 (D11): the battery frame, byte by byte, for both widths of `capacity`; with three bytes its bits 31:24
are dropped. -/
def Obligations.BatteryFrameBytes : Prop :=
  ∀ (s : State) (v i : Half) (cap : Word) (rem : Byte),
    let head : List Byte := [0x08#8, v.extractLsb' 8 8, v.extractLsb' 0 8, i.extractLsb' 8 8, i.extractLsb' 0 8]
    let low : List Byte := [cap.extractLsb' 16 8, cap.extractLsb' 8 8, cap.extractLsb' 0 8, rem]
    let body3 := head ++ low
    let body4 := head ++ [cap.extractLsb' 24 8] ++ low
    let f : OutboundFrame := match s.cfg.battCap with
      | .three => ⟨[0xC8#8, 0x0A#8] ++ body3 ++ [crc8 body3], 12#8⟩
      | .four => ⟨[0xC8#8, 0x0B#8] ++ body4 ++ [crc8 body4], 13#8⟩
    let t : State := { s with report := some ⟨.ok, .frame f⟩ }
    exec (.enc 0x08#8 (.battery v i cap rem)) s = .next t ∧ exec (.encBattery (.battery v i cap rem)) s = .next t

/-- 41_crsf R146: the barometric frame, byte by byte. -/
def Obligations.BaroFrameBytes : Prop :=
  ∀ (s : State) (alt vs : Half),
    let body : List Byte := [0x09#8, alt.extractLsb' 8 8, alt.extractLsb' 0 8, vs.extractLsb' 8 8, vs.extractLsb' 0 8]
    let t : State := { s with
      report := some ⟨.ok, .frame ⟨[0xC8#8, 0x06#8] ++ body ++ [crc8 body], 8#8⟩⟩ }
    exec (.enc 0x09#8 (.baroAlt alt vs)) s = .next t ∧ exec (.encBaro (.baroAlt alt vs)) s = .next t

/-- 41_crsf R147 (D12): the heartbeat frame, whatever the state. -/
def Obligations.HeartbeatFrameBytes : Prop :=
  ∀ s : State,
    exec .hb s = .next { s with
      report := some ⟨.ok, .frame ⟨[0xC8#8, 0x03#8, 0x0B#8, s.cfg.fcAddr, crc8 [0x0B#8, s.cfg.fcAddr]], 5#8⟩⟩ }

/-- 41_crsf R148, 43_outbound_pack R216, 30_encoding R87 and 60_exceptions R244 (D2, D10, D20): a transaction outside the
contract sets `refused`, returns nothing, emits nothing, and changes nothing else. -/
def Obligations.ContractViolationsOnlySetTheMark : Prop :=
  ∀ s : State,
    let t : State := { s with refused := true, report := some ⟨.contractViolation, .nothing⟩ }
    (∀ (ft : Byte) (p : Payload), (ft ∉ [0x02#8, 0x07#8, 0x08#8, 0x09#8] ∨ payloadTag p ≠ ft) →
      exec (.enc ft p) s = .next t) ∧
    (∀ p : Payload, payloadTag p ≠ 0x02#8 → exec (.encGps p) s = .next t) ∧
    (∀ p : Payload, payloadTag p ≠ 0x07#8 → exec (.encVario p) s = .next t) ∧
    (∀ p : Payload, payloadTag p ≠ 0x08#8 → exec (.encBattery p) s = .next t) ∧
    (∀ p : Payload, payloadTag p ≠ 0x09#8 → exec (.encBaro p) s = .next t) ∧
    (∀ p : Payload, exec (.encHeartbeatType p) s = .next t) ∧
    (∀ (ft : Byte) (p : Payload), ft ∉ [0x02#8, 0x07#8, 0x08#8, 0x09#8, 0x0B#8] →
      exec (.encRefused ft p) s = .next t) ∧
    (∀ (cat : Byte) (now : Timestamp), cat ∉ [0x02#8, 0x07#8, 0x08#8, 0x09#8] →
      exec (.bld cat now) s = .next t ∧ exec (.bldRefused cat now) s = .next t) ∧
    exec .reserved s = .next t

/-- 41_crsf R149: an `ENC` or `HB` answers from its operands and the parameters alone, so two of them with equal operands
give identical answers, whatever transactions run in between. That every one of them answers is 60_exceptions R240, and
for `HB` R147; that an `ENC` outside the contract does so too, because its refusal is a next state with a report, is
DEDUCED from R244 and R248 (log 10). -/
def Obligations.EncoderIsPure : Prop :=
  ∀ (ft : Byte) (p : Payload) (s t : State),
    (t.cfg = s.cfg ∨ ∃ (between : List Instr) (answers : List (Option Report)),
      runTxns between s = some (t, answers)) →
    answered (exec (.enc ft p) t) = answered (exec (.enc ft p) s) ∧
    answered (exec .hb t) = answered (exec .hb s) ∧
    (answered (exec (.enc ft p) s)).isSome ∧ (answered (exec .hb s)).isSome

/-- 41_crsf R142 (D30), 41_crsf R150 (D31) and 30_encoding R83, R86: no transaction answers `PayloadTooLarge`, and every
frame answered or newly transmitted is laid out as R83 says, in 5 to 19 bytes. 43_outbound_pack R218 and 60_exceptions
R253: the sink grows only by the frame of a `CONV`, which is the spec's own choice D21. -/
def Obligations.EveryFrameIsWellFormed : Prop :=
  ∀ (i : Instr) (s t : State), exec i s = .next t →
    ∃ r : Report, t.report = some r ∧ r.FrameOk ∧ r.outcome ≠ .payloadTooLarge ∧
      (∀ e, r.result ≠ .encodeError e) ∧
      (t.sink = s.sink ∨ ∃ f : OutboundFrame, f.Ok ∧ t.sink = s.sink ++ [f] ∧ familyOf i = .convert ∧
        r.result = .converted (some f))

/-! ## The sensor field unpacker -/

/-- 42_sensor_unpack R171: every recognised update sets its category's `valid` and moves its `last_update` to `now`,
whatever the new field value. The category is the one the identifier routes to (R210). -/
def Obligations.RecognisedUpdatesTouchTheirCategory : Prop :=
  ∀ (i : Instr) (s : State) (row : UpdRow) (cat : Category),
    updRowOf s.cfg i = some row → routeRow row = some cat →
    ∃ t : State, exec i s = .next t ∧ t.snap.validOf cat = true ∧ t.snap.lastUpdateOf cat = nowOf i

/-- 42_sensor_unpack R172 (D15): the coordinate, in integers, each divided term truncated on its own, wrapped to i32. -/
def Obligations.GpsCoordinateUpdate : Prop :=
  ∀ (s : State) (sid fid : Byte) (raw : Word) (now : Timestamp),
    let v := (raw.extractLsb' 0 30).toNat
    let deg := v / 1000000
    let mins := v % 1000000 / 10000
    let frac := v % 10000
    let d : Int := ((deg * 10000000 + mins * 10000000 / 60 + frac * 1000 / 60 : Nat) : Int)
    let d := if raw.getLsbD 30 then -d else d
    ∃ x : Word, x.toInt = d.bmod (2 ^ 32) ∧
      let g : GpsCat :=
        if raw.getLsbD 31 then { s.snap.gps with longitude := x, valid := true, lastUpdate := now }
        else { s.snap.gps with latitude := x, valid := true, lastUpdate := now }
      let t : State := { s with snap := { s.snap with gps := g }, report := some ⟨.ok, .nothing⟩ }
      exec (.updGpsCoord sid fid raw now) s = .next t ∧ exec (.upd ⟨sid, fid, 0x0800#16, raw⟩ now) s = .next t

/-- 42_sensor_unpack R172 (D15), its corner case: the coordinate leaves the i32 range exactly from 214449019 on, on
either side of zero. `coordinate` is the value before `s32`. -/
def Obligations.CoordinateWrapsFrom214449019 : Prop :=
  ∀ raw : Word,
    (coordinate raw < -(2 ^ 31) ∨ 2 ^ 31 ≤ coordinate raw) ↔ 214449019 ≤ (raw.extractLsb' 0 30).toNat

/-- 42_sensor_unpack R173, R174 and R175 (D16): GPS altitude, speed and heading. -/
def Obligations.GpsScalarUpdates : Prop :=
  ∀ (s : State) (sid fid : Byte) (raw : Word) (now : Timestamp), s.cfg.legal = true →
    (∃ x : Word, x.toNat = raw.toNat / 10 + 1000 ∧
      let t : State := { s with
        snap := { s.snap with gps := { s.snap.gps with altitude := x, valid := true, lastUpdate := now } }
        report := some ⟨.ok, .nothing⟩ }
      exec (.updGpsAlt sid fid raw now) s = .next t ∧ exec (.upd ⟨sid, fid, s.cfg.idGpsAlt, raw⟩ now) s = .next t) ∧
    (∃ x : Word, x.toNat = raw.toNat * 1852 % 2 ^ 32 / 10000 ∧
      let t : State := { s with
        snap := { s.snap with gps := { s.snap.gps with groundSpeed := x, valid := true, lastUpdate := now } }
        report := some ⟨.ok, .nothing⟩ }
      exec (.updGpsSpeed sid fid raw now) s = .next t ∧
      exec (.upd ⟨sid, fid, s.cfg.idGpsSpeed, raw⟩ now) s = .next t) ∧
    (∃ x : Word, x.toNat = raw.toNat / 100 ∧
      let t : State := { s with
        snap := { s.snap with gps := { s.snap.gps with heading := x, valid := true, lastUpdate := now } }
        report := some ⟨.ok, .nothing⟩ }
      exec (.updGpsHeading sid fid raw now) s = .next t ∧
      exec (.upd ⟨sid, fid, s.cfg.idGpsHeading, raw⟩ now) s = .next t)

/-- 42_sensor_unpack R176 and R177 (D16): battery voltage and current, each raw value times 100, wrapped to 32 bits. -/
def Obligations.BatteryScalarUpdates : Prop :=
  ∀ (s : State) (sid fid : Byte) (raw : Word) (now : Timestamp), s.cfg.legal = true →
    ∃ x : Word, x.toNat = raw.toNat * 100 % 2 ^ 32 ∧
      (let t : State := { s with
        snap := { s.snap with bat := { s.snap.bat with voltageMv := x, valid := true, lastUpdate := now } }
        report := some ⟨.ok, .nothing⟩ }
      exec (.updVoltage sid fid raw now) s = .next t ∧
      exec (.upd ⟨sid, fid, s.cfg.idVoltage, raw⟩ now) s = .next t) ∧
      (let t : State := { s with
        snap := { s.snap with bat := { s.snap.bat with currentMa := x, valid := true, lastUpdate := now } }
        report := some ⟨.ok, .nothing⟩ }
      exec (.updCurrent sid fid raw now) s = .next t ∧
      exec (.upd ⟨sid, fid, s.cfg.idCurrent, raw⟩ now) s = .next t)

/-- 42_sensor_unpack R178: the fuel value truncated to a byte, with no clamp. -/
def Obligations.FuelUpdate : Prop :=
  ∀ (s : State) (sid fid : Byte) (raw : Word) (now : Timestamp), s.cfg.legal = true →
    let t : State := { s with
      snap := { s.snap with
        bat := { s.snap.bat with fuelPercent := raw.extractLsb' 0 8, valid := true, lastUpdate := now } }
      report := some ⟨.ok, .nothing⟩ }
    exec (.updFuel sid fid raw now) s = .next t ∧ exec (.upd ⟨sid, fid, s.cfg.idFuel, raw⟩ now) s = .next t

/-- 42_sensor_unpack R179 and R180 (D16): the barometric altitude divides the signed value toward zero; the vario speed
is the low 16 bits read as signed. -/
def Obligations.BaroAndVarioUpdates : Prop :=
  ∀ (s : State) (sid fid : Byte) (raw : Word) (now : Timestamp), s.cfg.legal = true →
    (∃ x : Word, x.toInt = raw.toInt.tdiv 10 ∧
      let t : State := { s with
        snap := { s.snap with baro := { altitudeCm := x, valid := true, lastUpdate := now } }
        report := some ⟨.ok, .nothing⟩ }
      exec (.updBaroAlt sid fid raw now) s = .next t ∧
      exec (.upd ⟨sid, fid, s.cfg.idBaroAlt, raw⟩ now) s = .next t) ∧
    (∃ x : Half, x.toInt = raw.toInt.bmod (2 ^ 16) ∧
      let t : State := { s with
        snap := { s.snap with vario := { verticalSpeedCms := x, valid := true, lastUpdate := now } }
        report := some ⟨.ok, .nothing⟩ }
      exec (.updVario sid fid raw now) s = .next t ∧ exec (.upd ⟨sid, fid, s.cfg.idVario, raw⟩ now) s = .next t)

/-- 42_sensor_unpack R181 (D27): an unrecognised identifier is accepted and changes nothing. 43_outbound_pack R218: a
`CONV` of one returns `None`; that its code is OK is DEDUCED from 60_exceptions R240 and R243 (log 20, unsafe). -/
def Obligations.UnrecognisedIdentifiersChangeNothing : Prop :=
  ∀ (s : State) (p : SensorPacket) (now : Timestamp),
    p.dataId ∉ [0x0800#16, s.cfg.idGpsAlt, s.cfg.idGpsSpeed, s.cfg.idGpsHeading, s.cfg.idVoltage, s.cfg.idCurrent,
      s.cfg.idFuel, s.cfg.idBaroAlt, s.cfg.idVario] →
    exec (.updOther p now) s = .next { s with report := some ⟨.ok, .nothing⟩ } ∧
    exec (.upd p now) s = .next { s with report := some ⟨.ok, .nothing⟩ } ∧
    exec (.conv p now) s = .next { s with report := some ⟨.ok, .converted none⟩ }

/-- The frame of `UPD`, its rows and `CONV` (42_sensor_unpack R182, R183; 43_outbound_pack R218): the decoder and the
mark are unchanged, so is every category the identifier does not own, and so are the two fields no rule writes; an
`UPD` hands nothing to the sink. -/
def Obligations.UpdatesLeaveTheRest : Prop :=
  ∀ (i : Instr) (s t : State) (row : UpdRow), updRowOf s.cfg i = some row → exec i s = .next t →
    t.dec = s.dec ∧ t.refused = s.refused ∧ (familyOf i = .unpacker → t.sink = s.sink) ∧
    (routeRow row ≠ some .gps → t.snap.gps = s.snap.gps) ∧
    (routeRow row ≠ some .battery → t.snap.bat = s.snap.bat) ∧
    (routeRow row ≠ some .baro → t.snap.baro = s.snap.baro) ∧
    (routeRow row ≠ some .vario → t.snap.vario = s.snap.vario) ∧
    t.snap.gps.satelliteCount = s.snap.gps.satelliteCount ∧
    t.snap.bat.capacityUsedMah = s.snap.bat.capacityUsedMah

/-! ## The outbound packer -/

/-- 43_outbound_pack R211 to R215 and R221 (D17, D18, D19): `BLD` answers the packed payload of a fresh category and
`None` otherwise, and changes no block state. -/
def Obligations.BuildAnswersTheFreshPayload : Prop :=
  ∀ (s : State) (now : Timestamp),
    let answer (valid : Bool) (last : Timestamp) (p : Payload) : State := { s with
      report := some (if valid = true ∧ ((now : Int) - last) % 2 ^ s.cfg.tsBits < s.cfg.stalenessTimeout
        then ⟨.ok, .payload (some p)⟩ else ⟨.staleData, .payload none⟩) }
    let g := s.snap.gps
    let b := s.snap.bat
    let tGps := answer g.valid g.lastUpdate (.gps g.latitude g.longitude (g.groundSpeed.extractLsb' 0 16)
      (g.heading.extractLsb' 0 16) (g.altitude.extractLsb' 0 16) g.satelliteCount)
    let tVario := answer s.snap.vario.valid s.snap.vario.lastUpdate (.vario s.snap.vario.verticalSpeedCms)
    let tBat := answer b.valid b.lastUpdate (.battery (b.voltageMv.extractLsb' 0 16) (b.currentMa.extractLsb' 0 16)
      b.capacityUsedMah b.fuelPercent)
    let tBaro := answer s.snap.baro.valid s.snap.baro.lastUpdate
      (.baroAlt (s.snap.baro.altitudeCm.extractLsb' 0 16) s.snap.vario.verticalSpeedCms)
    (exec (.bld 0x02#8 now) s = .next tGps ∧ exec (.bldGps now) s = .next tGps) ∧
    (exec (.bld 0x07#8 now) s = .next tVario ∧ exec (.bldVario now) s = .next tVario) ∧
    (exec (.bld 0x08#8 now) s = .next tBat ∧ exec (.bldBattery now) s = .next tBat) ∧
    (exec (.bld 0x09#8 now) s = .next tBaro ∧ exec (.bldBaro now) s = .next tBaro)

/-- 43_outbound_pack R220: the staleness boundary, both sums taken modulo `2^TS_BITS`. -/
def Obligations.StalenessBoundary : Prop :=
  ∀ (s : State) (cat : Category), s.cfg.legal = true → 1 ≤ s.cfg.stalenessTimeout → s.snap.validOf cat = true →
    s.snap.lastUpdateOf cat < 2 ^ s.cfg.tsBits →
    let last := s.snap.lastUpdateOf cat
    let inTime := (last + s.cfg.stalenessTimeout - 1) % 2 ^ s.cfg.tsBits
    let late := (last + s.cfg.stalenessTimeout) % 2 ^ s.cfg.tsBits
    (∃ p, answered (exec (.bld (frameTypeOf cat) inTime) s) = some ⟨.ok, .payload (some p)⟩) ∧
    answered (exec (.bld (frameTypeOf cat) late) s) = some ⟨.staleData, .payload none⟩

/-- 43_outbound_pack R217: with no update, convert or reset in between, two `BLD` of a category that answer a payload
answer the same one. -/
def Obligations.BuildIsRepeatable : Prop :=
  ∀ (s t : State) (between : List Instr) (answers : List (Option Report)) (cat : Byte) (now later : Timestamp)
    (p q : Payload),
    (∀ i ∈ between, familyOf i ≠ .unpacker ∧ familyOf i ≠ .convert ∧ familyOf i ≠ .reset) →
    runTxns between s = some (t, answers) →
    answered (exec (.bld cat now) s) = some ⟨.ok, .payload (some p)⟩ →
    answered (exec (.bld cat later) t) = some ⟨.ok, .payload (some q)⟩ → q = p

/-- The frame of `ENC`, `HB`, `BLD`, their rows and the reserved selector (20_memory R58, 60_exceptions R244): the
decoder, the snapshot and the sink are unchanged, and the mark is set only by a refusal. That `ENC` and `HB` do not
transmit (60_exceptions R253) is the spec's own choice D21. -/
def Obligations.EncodeAndBuildLeaveTheBlock : Prop :=
  ∀ (i : Instr) (s t : State),
    (familyOf i = .encoder ∨ familyOf i = .packer ∨ familyOf i = .reserved) → exec i s = .next t →
    t.dec = s.dec ∧ t.snap = s.snap ∧ t.sink = s.sink ∧
    (t.refused = s.refused ∨ (t.refused = true ∧ t.report = some ⟨.contractViolation, .nothing⟩))

/-! ## Convert -/

/-- 43_outbound_pack R218: `CONV` is `UPD`, then `BLD` of the routed category on the updated snapshot, then `ENC` of the
payload that answers, whose frame is handed to the sink and returned; where no category is routed or no payload comes,
it is the update alone, and returns `None`. That the frame goes to the sink is the spec's own choice D21. The codes are
those of 60_exceptions R240 and R243; that the code is OK where no category is routed is DEDUCED (log 20, unsafe). -/
def Obligations.ConvertIsUpdateBuildEncode : Prop :=
  ∀ (s u : State) (p : SensorPacket) (now : Timestamp), exec (.upd p now) s = .next u →
    (route s.cfg p.dataId = none →
      exec (.conv p now) s = .next { u with report := some ⟨.ok, .converted none⟩ }) ∧
    (∀ cat, route s.cfg p.dataId = some cat →
      (answered (exec (.bld (frameTypeOf cat) now) u) = some ⟨.staleData, .payload none⟩ →
        exec (.conv p now) s = .next { u with report := some ⟨.staleData, .converted none⟩ }) ∧
      (∀ (q : Payload) (f : OutboundFrame),
        answered (exec (.bld (frameTypeOf cat) now) u) = some ⟨.ok, .payload (some q)⟩ →
        answered (exec (.enc (frameTypeOf cat) q) u) = some ⟨.ok, .frame f⟩ →
        exec (.conv p now) s
          = .next { u with sink := u.sink ++ [f], report := some ⟨.ok, .converted (some f)⟩ }))

/-- 43_outbound_pack R219 (D29): a `CONV` with a routed identifier completes; it hands one frame of the routed type to the
sink (D21) where the timeout is at least 1, and none where it is 0, with the code of 60_exceptions R243. -/
def Obligations.ConvertTransmitsUnlessTheTimeoutIsZero : Prop :=
  ∀ (s : State) (p : SensorPacket) (now : Timestamp) (cat : Category), route s.cfg p.dataId = some cat →
    ∃ t : State, exec (.conv p now) s = .next t ∧
      (1 ≤ s.cfg.stalenessTimeout → ∃ f : OutboundFrame, t.sink = s.sink ++ [f] ∧ f.Ok ∧
        f.bytes[2]? = some (frameTypeOf cat) ∧ t.report = some ⟨.ok, .converted (some f)⟩) ∧
      (s.cfg.stalenessTimeout = 0 → t.sink = s.sink ∧ t.report = some ⟨.staleData, .converted none⟩)

/-! ## Reset, the marks and the whole machine -/

/-- 70_reset R271 (D33): the decoder and the snapshot return to their reset values; `buf` keeps its bytes and `refused`
its value, and nothing else changes. -/
def Obligations.ResetTransaction : Prop :=
  ∀ s : State,
    exec .reset s = .next { s with
      dec := { s.dec with dstate := .idle, esc := false, idx := 0#4 }
      snap := {
        gps := ⟨0#32, 0#32, 0#32, 0#32, 0#32, 0#8, false, 0⟩
        bat := ⟨0#32, 0#32, 0#32, 0#8, false, 0⟩
        baro := ⟨0#32, false, 0⟩
        vario := ⟨0#16, false, 0⟩ }
      report := some ⟨.ok, .nothing⟩ }

/-- 10_state R35: a category's `valid` flag is set by the category's updates alone, and no transaction but the reset
clears it. -/
def Obligations.ValidIsSetByUpdatesAndClearedOnlyByReset : Prop :=
  ∀ (i : Instr) (s t : State) (cat : Category), exec i s = .next t →
    (i ≠ .reset → s.snap.validOf cat = true → t.snap.validOf cat = true) ∧
    (i = .reset → t.snap.validOf cat = false) ∧
    (s.snap.validOf cat = false → t.snap.validOf cat = true →
      ∃ row, updRowOf s.cfg i = some row ∧ routeRow row = some cat) ∧
    (∀ row, updRowOf s.cfg i = some row → routeRow row = some cat → t.snap.validOf cat = true)

/-- 10_state R38 and 60_exceptions R244, R248 (D10): no transaction clears `refused`; one that sets it changes no block
state and emits nothing. -/
def Obligations.RefusedIsNeverCleared : Prop :=
  ∀ (i : Instr) (s t : State), exec i s = .next t →
    (s.refused = true → t.refused = true) ∧
    (t.report = some ⟨.contractViolation, .nothing⟩ →
      t.refused = true ∧ t.dec = s.dec ∧ t.snap = s.snap ∧ t.sink = s.sink) ∧
    (s.refused = false → t.refused = true → t.report = some ⟨.contractViolation, .nothing⟩)

/-- 10_state R21 and R22: the decoder state is private to the decoder. What any other transaction but the reset does to
the rest of the machine does not depend on it, and leaves it as it was. -/
def Obligations.DecoderStateIsPrivate : Prop :=
  ∀ (i : Instr) (s t : State) (d : Decoder), familyOf i ≠ .decoder → familyOf i ≠ .reset →
    exec i s = .next t → exec i { s with dec := d } = .next { t with dec := d }

/-- 20_memory R58 and 10_state R21: the decoder neither reads nor writes the snapshot. -/
def Obligations.DecoderIgnoresTheSnapshot : Prop :=
  ∀ (i : Instr) (s t : State) (snap : Snapshot), familyOf i = .decoder →
    exec i s = .next t → exec i { s with snap := snap } = .next { t with snap := snap }

/-- The state after power-on, under the default parameters (log 5), meets the machine's invariant. -/
def Obligations.ResetMeetsTheInvariant : Prop := State.reset.Inv

/-- The machine's invariant (10_state R26, R30, R35; 42_sensor_unpack R182; 30_encoding R83) is kept by every step from
every state that meets it, whatever words stand at the port. -/
def Obligations.EveryStepKeepsTheInvariant : Prop :=
  ∀ s t : State, s.Inv → step s = .next t → t.Inv

/-- 60_exceptions R250 and 40_sport R119: from a state of the invariant no step faults, and none stores outside `buf`
(20_memory R51; log 12). 60_exceptions R240, R247 and R248:
a step whose transaction is a command of 30_encoding R70 goes on to a next state. That a refused one (an `ENC` or `BLD`
outside the contract, `RESERVED`) does so too is DEDUCED from R244 and R248 (log 10); that a header byte below 8 is the
command's `op` is the model's layout (log 2). -/
def Obligations.CommandsNeverStop : Prop :=
  ∀ s : State, s.Inv →
    (∀ r, step s ≠ .fault r) ∧ step s ≠ .refused .bufferIndexOutOfRange ∧
    (∀ (w : List Byte) (rest : List (List Byte)) (op : Byte) (i : Instr),
      s.port = w :: rest → w.head? = some op → op.toNat < 8 → decode s.cfg w = .ok i → ∃ t, step s = .next t)

/-- 70_reset R273 with 30_encoding R91 (`pbconv`), end to end: the host loop, draining the bytes of one stuffed frame from
`Idle`, does to the snapshot, the sink and the output port what one `CONV` of the packet does, where the check byte is
the packet's checksum; where it is not, the snapshot and the sink are unchanged and `CRC_ERROR` is reported.
Each byte comes with the clock's own reading (`earlier`, then `last`), and the `CONV` takes the reading of the byte on
which the packet came out, the last. The host loop is a definition beside the machine (log 24). -/
def Obligations.HostLoopConvertsOneFrame : Prop :=
  ∀ (s : State) (p : SensorPacket) (check : Byte) (earlier : List Timestamp) (last : Timestamp),
    s.dec.dstate = .idle → (wireFrame (packetBytes p ++ [check])).length = earlier.length + 1 →
    let bytes := (wireFrame (packetBytes p ++ [check])).zip (earlier ++ [last])
    (check = chk s.cfg.crcVariant (packetBytes p) →
      ∃ t u : State, hostDrain bytes s = .next t ∧ exec (.conv p last) s = .next u ∧
        t.snap = u.snap ∧ t.sink = u.sink ∧ t.report = u.report ∧ t.refused = s.refused ∧ t.dec.dstate = .idle) ∧
    (check ≠ chk s.cfg.crcVariant (packetBytes p) →
      ∃ t : State, hostDrain bytes s = .next t ∧ t.snap = s.snap ∧ t.sink = s.sink ∧ t.refused = s.refused ∧
        t.report = some ⟨.frameIntegrity, .decoded .crcError none⟩ ∧ t.dec.dstate = .idle)
end

