-- ==== Sys2Proof/Laws/State.lean ====
section
/-! SUPPORT. One lemma per field per update of the state, so that no later proof unfolds a record update. -/

namespace Sys2Proof.Machine

variable (s : State)

/-! `State.setDec` -/

@[simp] theorem State.setDec_cfg (d : Decoder) : (s.setDec d).cfg = s.cfg := rfl
@[simp] theorem State.setDec_dec (d : Decoder) : (s.setDec d).dec = d := rfl
@[simp] theorem State.setDec_snap (d : Decoder) : (s.setDec d).snap = s.snap := rfl
@[simp] theorem State.setDec_refused (d : Decoder) : (s.setDec d).refused = s.refused := rfl
@[simp] theorem State.setDec_port (d : Decoder) : (s.setDec d).port = s.port := rfl
@[simp] theorem State.setDec_report (d : Decoder) : (s.setDec d).report = s.report := rfl
@[simp] theorem State.setDec_sink (d : Decoder) : (s.setDec d).sink = s.sink := rfl

/-! `State.setSnap` -/

@[simp] theorem State.setSnap_cfg (snap : Snapshot) : (s.setSnap snap).cfg = s.cfg := rfl
@[simp] theorem State.setSnap_dec (snap : Snapshot) : (s.setSnap snap).dec = s.dec := rfl
@[simp] theorem State.setSnap_snap (snap : Snapshot) : (s.setSnap snap).snap = snap := rfl
@[simp] theorem State.setSnap_refused (snap : Snapshot) : (s.setSnap snap).refused = s.refused := rfl
@[simp] theorem State.setSnap_port (snap : Snapshot) : (s.setSnap snap).port = s.port := rfl
@[simp] theorem State.setSnap_report (snap : Snapshot) : (s.setSnap snap).report = s.report := rfl
@[simp] theorem State.setSnap_sink (snap : Snapshot) : (s.setSnap snap).sink = s.sink := rfl

/-! `State.answer` -/

@[simp] theorem State.answer_cfg (o : OutcomeCode) (r : TxnResult) : (s.answer o r).cfg = s.cfg := rfl
@[simp] theorem State.answer_dec (o : OutcomeCode) (r : TxnResult) : (s.answer o r).dec = s.dec := rfl
@[simp] theorem State.answer_snap (o : OutcomeCode) (r : TxnResult) : (s.answer o r).snap = s.snap := rfl
@[simp] theorem State.answer_refused (o : OutcomeCode) (r : TxnResult) : (s.answer o r).refused = s.refused := rfl
@[simp] theorem State.answer_port (o : OutcomeCode) (r : TxnResult) : (s.answer o r).port = s.port := rfl
@[simp] theorem State.answer_report (o : OutcomeCode) (r : TxnResult) : (s.answer o r).report = some ⟨o, r⟩ := rfl
@[simp] theorem State.answer_sink (o : OutcomeCode) (r : TxnResult) : (s.answer o r).sink = s.sink := rfl

/-! `State.refuse` -/

@[simp] theorem State.refuse_cfg : s.refuse.cfg = s.cfg := rfl
@[simp] theorem State.refuse_dec : s.refuse.dec = s.dec := rfl
@[simp] theorem State.refuse_snap : s.refuse.snap = s.snap := rfl
@[simp] theorem State.refuse_refused : s.refuse.refused = true := rfl
@[simp] theorem State.refuse_port : s.refuse.port = s.port := rfl
@[simp] theorem State.refuse_report : s.refuse.report = some ⟨.contractViolation, .nothing⟩ := rfl
@[simp] theorem State.refuse_sink : s.refuse.sink = s.sink := rfl

/-! `State.transmit` -/

@[simp] theorem State.transmit_cfg (f : OutboundFrame) : (s.transmit f).cfg = s.cfg := rfl
@[simp] theorem State.transmit_dec (f : OutboundFrame) : (s.transmit f).dec = s.dec := rfl
@[simp] theorem State.transmit_snap (f : OutboundFrame) : (s.transmit f).snap = s.snap := rfl
@[simp] theorem State.transmit_refused (f : OutboundFrame) : (s.transmit f).refused = s.refused := rfl
@[simp] theorem State.transmit_port (f : OutboundFrame) : (s.transmit f).port = s.port := rfl
@[simp] theorem State.transmit_report (f : OutboundFrame) : (s.transmit f).report = s.report := rfl
@[simp] theorem State.transmit_sink (f : OutboundFrame) : (s.transmit f).sink = s.sink ++ [f] := rfl

/-! `State.answerNone` -/

@[simp] theorem State.answerNone_cfg : s.answerNone.cfg = s.cfg := rfl
@[simp] theorem State.answerNone_dec : s.answerNone.dec = s.dec := rfl
@[simp] theorem State.answerNone_snap : s.answerNone.snap = s.snap := rfl
@[simp] theorem State.answerNone_refused : s.answerNone.refused = s.refused := rfl
@[simp] theorem State.answerNone_port : s.answerNone.port = s.port := rfl
@[simp] theorem State.answerNone_report : s.answerNone.report = some ⟨.ok, .decoded .none none⟩ := rfl
@[simp] theorem State.answerNone_sink : s.answerNone.sink = s.sink := rfl

/-! `closeOk` and `closeBad` -/

@[simp] theorem closeOk_cfg : (closeOk s).cfg = s.cfg := rfl
@[simp] theorem closeOk_dec : (closeOk s).dec = { s.dec with dstate := .idle } := rfl
@[simp] theorem closeOk_snap : (closeOk s).snap = s.snap := rfl
@[simp] theorem closeOk_refused : (closeOk s).refused = s.refused := rfl
@[simp] theorem closeOk_port : (closeOk s).port = s.port := rfl
@[simp] theorem closeOk_report : (closeOk s).report = some ⟨.ok, .decoded .packet (some (assemblePacket s.dec.buf))⟩ := rfl
@[simp] theorem closeOk_sink : (closeOk s).sink = s.sink := rfl

@[simp] theorem closeBad_cfg : (closeBad s).cfg = s.cfg := rfl
@[simp] theorem closeBad_dec : (closeBad s).dec = { s.dec with dstate := .idle } := rfl
@[simp] theorem closeBad_snap : (closeBad s).snap = s.snap := rfl
@[simp] theorem closeBad_refused : (closeBad s).refused = s.refused := rfl
@[simp] theorem closeBad_port : (closeBad s).port = s.port := rfl
@[simp] theorem closeBad_report : (closeBad s).report = some ⟨.frameIntegrity, .decoded .crcError none⟩ := rfl
@[simp] theorem closeBad_sink : (closeBad s).sink = s.sink := rfl

end Sys2Proof.Machine
end

