-- ==== Sys2Proof/Laws/Selection.lean ====
section
/-! SUPPORT. What the key tables select, once: later proofs cite these instead of searching a table. -/

namespace Sys2Proof

/-! ## The decoder key (30_encoding R73, R74) -/

/-- A key read back: its byte. -/
@[simp] theorem decoderKey_byte (k : BitVec 2) (e : Bool) (b : Byte) : (decoderKey k e b).setWidth 8 = b := by
  revert k e b; decide

/-- A key read back: its escape bit. -/
@[simp] theorem decoderKey_esc (k : BitVec 2) (e : Bool) (b : Byte) : (decoderKey k e b).getLsbD 8 = e := by
  revert k e b; decide

/-- The same, in the form `simp` gives a bit of a known place. -/
@[simp] theorem decoderKey_getElem_esc (k : BitVec 2) (e : Bool) (b : Byte) : (decoderKey k e b)[8] = e :=
  decoderKey_esc k e b

/-- `Idle`: rows 1 and 2. -/
@[simp] theorem selectSport_idle (e : Bool) (b : Byte) :
    selectSport (decoderKey 0#2 e b) = if b = sportSof then .idleStart else .idleDiscard := by
  revert e b; decide

/-- `Start`: rows 3 to 5. -/
@[simp] theorem selectSport_start (e : Bool) (b : Byte) :
    selectSport (decoderKey 1#2 e b)
      = if b = sportSof then .startRestart else if b = sportEsc then .startEsc else .startFirst := by
  revert e b; decide

/-- `Data`, no escape pending: rows 6 and 7. -/
@[simp] theorem selectSport_data_plain (b : Byte) :
    selectSport (decoderKey 2#2 false b) = if b = sportEsc then .dataEsc else .dataStorePlain := by
  revert b; decide

/-- `Data`, an escape pending: row 8. -/
@[simp] theorem selectSport_data_escaped (b : Byte) : selectSport (decoderKey 2#2 true b) = .dataStoreEscaped := by
  revert b; decide

/-- `dstate` = 3: row 9. -/
@[simp] theorem selectSport_invalid (e : Bool) (b : Byte) : selectSport (decoderKey 3#2 e b) = .dstateInvalid := by
  revert e b; decide

/-! ## The close key (30_encoding R75) -/

@[simp] theorem selectClose_notFull (m : Bool) : selectClose (BitVec.ofBool false ++ BitVec.ofBool m) = none := by
  revert m; decide

@[simp] theorem selectClose_full (m : Bool) :
    selectClose (BitVec.ofBool true ++ BitVec.ofBool m) = some (if m then .ok else .bad) := by
  revert m; decide

/-! ## Frame types, categories and identifiers (30_encoding R82, R85) -/

/-- The rows of format `crsf_type`. -/
theorem selectCrsf_eq (ft : Byte) :
    selectCrsf ft = if ft = 0x02#8 then .gps else if ft = 0x07#8 then .vario else if ft = 0x08#8 then .battery
      else if ft = 0x09#8 then .baro else if ft = 0x0B#8 then .heartbeatType else .refused := by
  revert ft; decide

/-- The rows of format `bld_category`. -/
theorem selectBld_eq (cat : Byte) :
    selectBld cat = if cat = 0x02#8 then .gps else if cat = 0x07#8 then .vario else if cat = 0x08#8 then .battery
      else if cat = 0x09#8 then .baro else .refused := by
  revert cat; decide

/-- A row whose mask is all ones takes exactly the key that equals its match value. -/
theorem selectRow_exact {α : Type} (r : α) (m k : Half) (rows : List (KeyRow α 16)) :
    selectRow (⟨r, m, 0xFFFF#16⟩ :: rows) k = if k = m then some r else selectRow rows k := by
  have hk : k &&& 0xFFFF#16 = k := BitVec.and_allOnes
  by_cases h : k = m
  · subst h; simp [selectRow, hk]
  · simp [selectRow, hk, h]

/-- A row with no mask takes every key. -/
theorem selectRow_any {α : Type} (r : α) (k : Half) (rows : List (KeyRow α 16)) :
    selectRow (⟨r, 0#16, 0#16⟩ :: rows) k = some r := by
  simp [selectRow]

/-- The rows of format `sport_data_id`. -/
theorem selectUpd_eq (c : Params) (d : Half) :
    selectUpd c d = if d = idGpsCoord then .gpsCoord else if d = c.idGpsAlt then .gpsAlt
      else if d = c.idGpsSpeed then .gpsSpeed else if d = c.idGpsHeading then .gpsHeading
      else if d = c.idVoltage then .voltage else if d = c.idCurrent then .current else if d = c.idFuel then .fuel
      else if d = c.idBaroAlt then .baroAlt else if d = c.idVario then .vario else .other := by
  simp only [selectUpd, sportDataIdTable, selectRow_exact, selectRow_any, apply_ite (Option.getD · UpdRow.other),
    Option.getD_some]

/-- `UPD.OTHER` takes exactly what is no identifier (R181). -/
theorem selectUpd_other_iff (c : Params) (d : Half) : selectUpd c d = .other ↔ d ∉ c.ids := by
  rw [selectUpd_eq]
  simp only [Params.ids, List.mem_cons, List.not_mem_nil, or_false, not_or]
  split_ifs <;> simp_all

/-- Under a legal configuration each identifier selects its own row (00_scope R6). -/
theorem selectUpd_ids (c : Params) (h : c.legal = true) :
    selectUpd c idGpsCoord = .gpsCoord ∧ selectUpd c c.idGpsAlt = .gpsAlt ∧ selectUpd c c.idGpsSpeed = .gpsSpeed ∧
    selectUpd c c.idGpsHeading = .gpsHeading ∧ selectUpd c c.idVoltage = .voltage ∧
    selectUpd c c.idCurrent = .current ∧ selectUpd c c.idFuel = .fuel ∧ selectUpd c c.idBaroAlt = .baroAlt ∧
    selectUpd c c.idVario = .vario := by
  have hn : c.ids.Nodup := by
    simp only [Params.legal, Bool.and_eq_true, decide_eq_true_eq] at h; exact h.1
  simp only [Params.ids, List.nodup_cons, List.mem_cons, List.not_mem_nil, or_false, not_or] at hn
  simp only [selectUpd_eq]
  obtain ⟨h0, h1, h2, h3, h4, h5, h6, h7, -⟩ := hn
  refine ⟨by simp, ?_, ?_, ?_, ?_, ?_, ?_, ?_, ?_⟩ <;> simp [*, eq_comm]

end Sys2Proof
end

