-- ==== Sys2Proof/Laws/Bytes.lean ====
section
/-! SUPPORT. Byte order, once: the little-endian operands of a transaction and of an S.PORT frame (20_memory R52), the
big-endian fields of a CRSF frame (R53). -/

namespace Sys2Proof

/-! ## Little-endian values (00_scope R11) -/

/-- The value of a two-byte operand. -/
theorem le16_toNat (a b : Byte) : (le16 a b).toNat = a.toNat + 256 * b.toNat := by
  have h : (le16 a b).toNat = b.toNat <<< 8 ||| a.toNat := BitVec.toNat_append b a
  rw [h, ← Nat.shiftLeft_add_eq_or_of_lt a.isLt, Nat.shiftLeft_eq]; omega

/-- The value of a four-byte operand. -/
theorem le32_toNat (a b c d : Byte) :
    (le32 a b c d).toNat = a.toNat + 256 * b.toNat + 65536 * c.toNat + 16777216 * d.toNat := by
  have h : (le32 a b c d).toNat = (d ++ c ++ b).toNat <<< 8 ||| a.toNat := BitVec.toNat_append (d ++ c ++ b) a
  have h2 : (d ++ c ++ b).toNat = (d ++ c).toNat <<< 8 ||| b.toNat := BitVec.toNat_append (d ++ c) b
  have h3 : (d ++ c).toNat = d.toNat <<< 8 ||| c.toNat := BitVec.toNat_append d c
  rw [h, ← Nat.shiftLeft_add_eq_or_of_lt a.isLt, h2, ← Nat.shiftLeft_add_eq_or_of_lt b.isLt, h3,
    ← Nat.shiftLeft_add_eq_or_of_lt c.isLt]
  simp only [Nat.shiftLeft_eq]; omega

/-- The value of a byte of a value. -/
theorem byteAt_toNat {w} (v : BitVec w) (k : Nat) : (byteAt v k).toNat = v.toNat / 2 ^ (8 * k) % 256 := by
  simp [byteAt, Nat.shiftRight_eq_div_pow]

/-- Splitting a 16-bit value and joining it again. -/
@[simp] theorem le16_half16 (v : Half) : le16 (byteAt v 0) (byteAt v 1) = v := by
  apply BitVec.eq_of_toNat_eq
  rw [le16_toNat, byteAt_toNat, byteAt_toNat]
  have := v.isLt
  omega

/-- Splitting a 32-bit value and joining it again. -/
@[simp] theorem le32_word32 (v : Word) : le32 (byteAt v 0) (byteAt v 1) (byteAt v 2) (byteAt v 3) = v := by
  apply BitVec.eq_of_toNat_eq
  rw [le32_toNat]; simp only [byteAt_toNat]
  have := v.isLt
  omega

/-- Joining two bytes and splitting them again. -/
@[simp] theorem half16_le16 (a b : Byte) : half16 (le16 a b) = [a, b] := by
  have h0 : byteAt (le16 a b) 0 = a := by
    apply BitVec.eq_of_toNat_eq; rw [byteAt_toNat, le16_toNat]; have := a.isLt; omega
  have h1 : byteAt (le16 a b) 1 = b := by
    apply BitVec.eq_of_toNat_eq; rw [byteAt_toNat, le16_toNat]; have := a.isLt; have := b.isLt; omega
  simp [half16, h0, h1]

/-- Joining four bytes and splitting them again. -/
@[simp] theorem word32_le32 (a b c d : Byte) : word32 (le32 a b c d) = [a, b, c, d] := by
  have := a.isLt; have := b.isLt; have := c.isLt; have := d.isLt
  have h0 : byteAt (le32 a b c d) 0 = a := by
    apply BitVec.eq_of_toNat_eq; rw [byteAt_toNat, le32_toNat]; omega
  have h1 : byteAt (le32 a b c d) 1 = b := by
    apply BitVec.eq_of_toNat_eq; rw [byteAt_toNat, le32_toNat]; omega
  have h2 : byteAt (le32 a b c d) 2 = c := by
    apply BitVec.eq_of_toNat_eq; rw [byteAt_toNat, le32_toNat]; omega
  have h3 : byteAt (le32 a b c d) 3 = d := by
    apply BitVec.eq_of_toNat_eq; rw [byteAt_toNat, le32_toNat]; omega
  simp [word32, h0, h1, h2, h3]

/-- A value that fits `n` bytes is read back from them. -/
theorem leNat_leBytes (n v : Nat) (h : v < 256 ^ n) : leNat (leBytes n v) = v := by
  induction n generalizing v with
  | zero => simp at h; subst h; rfl
  | succ n ih =>
    simp only [leBytes, leNat]
    rw [ih (v / 256) (by rw [Nat.pow_succ] at h; omega)]
    simp; omega

/-- A byte sequence is written back from its value. -/
theorem leBytes_leNat (bs : List Byte) : leBytes bs.length (leNat bs) = bs := by
  induction bs with
  | nil => rfl
  | cons b bs ih =>
    have hb := b.isLt
    simp only [List.length_cons, leBytes, leNat]
    have : (b.toNat + 256 * leNat bs) / 256 = leNat bs := by omega
    rw [this, ih]
    congr 1
    apply BitVec.eq_of_toNat_eq; simp; omega

/-- The value of `n` bytes is below `256^n`. -/
theorem leNat_lt (bs : List Byte) : leNat bs < 256 ^ bs.length := by
  induction bs with
  | nil => simp [leNat]
  | cons b bs ih => have := b.isLt; simp only [leNat, List.length_cons, Nat.pow_succ]; omega

/-- `LE_2` as 30_encoding R81 writes it. -/
theorem le16_or (a b : Byte) : le16 a b = a.setWidth 16 ||| (b.setWidth 16 <<< 8) := by
  apply BitVec.eq_of_toNat_eq
  have h : (le16 a b).toNat = b.toNat <<< 8 ||| a.toNat := BitVec.toNat_append b a
  rw [h, Nat.or_comm]
  have := b.isLt; have := a.isLt
  simp only [BitVec.toNat_or, BitVec.toNat_setWidth, BitVec.toNat_shiftLeft]
  rw [Nat.mod_eq_of_lt (by omega : a.toNat < 2^16), Nat.mod_eq_of_lt (by omega : b.toNat < 2^16),
    Nat.mod_eq_of_lt (by rw [Nat.shiftLeft_eq]; omega)]

/-- An or with a shifted value that does not overlap is a sum. -/
theorem or_shift (x : Nat) (y k : Nat) (h : x < 2^k) : x ||| y <<< k = x + y * 2^k := by
  rw [Nat.or_comm, ← Nat.shiftLeft_add_eq_or_of_lt h, Nat.shiftLeft_eq]; omega

/-- `LE_4` as 30_encoding R81 writes it. -/
theorem le32_or (a b c d : Byte) :
    le32 a b c d = a.setWidth 32 ||| (b.setWidth 32 <<< 8) ||| (c.setWidth 32 <<< 16) ||| (d.setWidth 32 <<< 24) := by
  apply BitVec.eq_of_toNat_eq
  have := b.isLt; have := a.isLt; have := c.isLt; have := d.isLt
  rw [le32_toNat]
  simp only [BitVec.toNat_or, BitVec.toNat_setWidth, BitVec.toNat_shiftLeft]
  rw [Nat.mod_eq_of_lt (by omega : a.toNat < 2^32), Nat.mod_eq_of_lt (by omega : b.toNat < 2^32),
    Nat.mod_eq_of_lt (by omega : c.toNat < 2^32), Nat.mod_eq_of_lt (by omega : d.toNat < 2^32),
    Nat.mod_eq_of_lt (by rw [Nat.shiftLeft_eq]; omega), Nat.mod_eq_of_lt (by rw [Nat.shiftLeft_eq]; omega),
    Nat.mod_eq_of_lt (by rw [Nat.shiftLeft_eq]; omega),
    or_shift a.toNat b.toNat 8 (by omega), or_shift _ c.toNat 16 (by omega), or_shift _ d.toNat 24 (by omega)]
  omega

/-! ## Big-endian fields -/

namespace Machine

/-- `BE_1` (00_scope R11). -/
theorem beBytes_one (v : Byte) : beBytes 1 v.toNat = [v] := by
  simp [beBytes]

/-- `BE_2` (00_scope R11). -/
theorem beBytes_two (v : Half) : beBytes 2 v.toNat = [v.extractLsb' 8 8, v.extractLsb' 0 8] := by
  simp only [beBytes]
  congr 1
  · apply BitVec.eq_of_toNat_eq; simp [Nat.shiftRight_eq_div_pow]
  congr 1
  · apply BitVec.eq_of_toNat_eq; simp

/-- `BE_3` of a 32-bit value: its bits 31:24 are dropped (00_scope R11). -/
theorem beBytes_three (v : Word) : beBytes 3 v.toNat = [v.extractLsb' 16 8, v.extractLsb' 8 8, v.extractLsb' 0 8] := by
  simp only [beBytes]
  congr 1
  · apply BitVec.eq_of_toNat_eq; simp [Nat.shiftRight_eq_div_pow]
  congr 1
  · apply BitVec.eq_of_toNat_eq; simp [Nat.shiftRight_eq_div_pow]
  congr 1
  · apply BitVec.eq_of_toNat_eq; simp

/-- `BE_4` (00_scope R11). -/
theorem beBytes_four (v : Word) :
    beBytes 4 v.toNat = [v.extractLsb' 24 8, v.extractLsb' 16 8, v.extractLsb' 8 8, v.extractLsb' 0 8] := by
  rw [← beBytes_three]
  show _ :: beBytes 3 v.toNat = _
  congr 1
  apply BitVec.eq_of_toNat_eq; simp [Nat.shiftRight_eq_div_pow]

end Machine

end Sys2Proof
end

