-- ==== Sys2Proof/Laws/Ops.lean ====
section
/-! SUPPORT. What each shared operation does, said once; later proofs cite these instead of unfolding the operation. -/

namespace Sys2Proof.Machine

/-! ## The decoder -/

/-- `PB` in `Idle` (40_sport R104, R105). -/
theorem execPb_idle {s : State} {b : Byte} (h : s.dec.dstate = .idle) :
    execPb b s = if b = sportSof then runIdleStart s else runIdleDiscard s := by
  simp only [execPb, Decoder.key, h, DState.code, selectSport_idle]
  split_ifs <;> rfl

/-- `PB` in `Start` (40_sport R106 to R108). -/
theorem execPb_start {s : State} {b : Byte} (h : s.dec.dstate = .start) :
    execPb b s = if b = sportSof then runStartRestart s else if b = sportEsc then runStartEsc s
      else runStartFirst b s := by
  simp only [execPb, Decoder.key, h, DState.code, selectSport_start]
  split_ifs <;> rfl

/-- `PB` in `Data` (40_sport R109 to R111). -/
theorem execPb_data {s : State} {b : Byte} (h : s.dec.dstate = .data) :
    execPb b s = if s.dec.esc = false ∧ b = sportEsc then runDataEsc s else storeData b s := by
  simp only [execPb, Decoder.key, h, DState.code]
  cases he : s.dec.esc
  · rw [selectSport_data_plain]; split_ifs <;> simp_all [runDataStorePlain]
  · rw [selectSport_data_escaped]; simp [runDataStoreEscaped]

/-- `PB` with `dstate` = 3 (30_encoding R76). -/
theorem execPb_invalid {s : State} {b : Byte} (h : s.dec.dstate = .invalid) :
    execPb b s = .fault .unreachableDecoderState := by
  simp only [execPb, Decoder.key, h, DState.code, selectSport_invalid, runDstateInvalid]

/-- A case row that goes on was selected, and ran its pseudocode. -/
theorem whenSelected_next {row : SportRow} {esc : Bool} {b : Byte} {s t : State} {run : Result}
    (h : whenSelected row esc b s run = .next t) :
    selectSport (s.dec.key b) = row ∧ s.dec.esc = esc ∧ run = .next t := by
  unfold whenSelected at h
  split at h
  · rename_i hs; exact ⟨hs.1, hs.2, h⟩
  · cases h

/-- A store that goes on had an index inside the buffer (20_memory R51). -/
theorem storeData_next {b : Byte} {s t : State} (h : storeData b s = .next t) :
    s.dec.idx < 9#4 ∧ t = afterStore (s.setDec (storeByte s.dec b)) := by
  unfold storeData at h
  split at h
  · cases h
  · rename_i hi; cases h; exact ⟨by simpa using hi, rfl⟩

/-- The close case of a decoder: none while the buffer is not full, else the one its checksum says (30_encoding R75). -/
theorem selectClose_closeKey_eq (c : Params) (d : Decoder) :
    selectClose (closeKey c d)
      = if d.idx = 9#4 then some (if chk c.crcVariant (d.buf.toList.take 8) = d.buf[8] then .ok else .bad) else none := by
  by_cases h : d.idx = 9#4
  · simp only [closeKey, checksumMatches, h, beq_self_eq_true, selectClose_full, beq_iff_eq, if_true]
  · simp only [closeKey, beq_eq_false_iff_ne.mpr h, selectClose_notFull, h, if_false]

/-- No close happens while the buffer is not full (30_encoding R75). -/
theorem afterStore_notFull {s : State} (h : s.dec.idx ≠ 9#4) : afterStore s = s.answerNone := by
  have h' : (s.dec.idx == 9#4) = false := by simpa using h
  simp only [afterStore, closeKey, h', selectClose_notFull]

/-- A full buffer closes by its checksum (30_encoding R75). -/
theorem afterStore_full {s : State} (h : s.dec.idx = 9#4) :
    afterStore s = if checksumMatches s.cfg s.dec then closeOk s else closeBad s := by
  have h' : (s.dec.idx == 9#4) = true := by simpa using h
  simp only [afterStore, closeKey, h', selectClose_full]
  split_ifs <;> rfl

/-- Storing at index 8 leaves the first eight bytes alone. -/
theorem take_eight_setIfInBounds (v : Vector Byte 9) (b : Byte) :
    (v.setIfInBounds 8 b).toList.take 8 = v.toList.take 8 := by
  rcases v with ⟨⟨l⟩, hl⟩
  simp at hl
  simp only [Vector.setIfInBounds, Vector.toList, List.setIfInBounds_toArray, List.take_set]
  rw [List.set_eq_of_length_le (by simp)]

/-- A store inside the buffer: below index 8 it only stores, and at index 8 it closes by the checksum of the first eight
bytes (40_sport R110 to R113, 30_encoding R75). -/
theorem storeData_inRange (s : State) (b : Byte) (hi : s.dec.idx.toNat ≤ 8) :
    storeData b s = .next (if s.dec.idx = 8#4 then
        (if chk s.cfg.crcVariant (s.dec.buf.toList.take 8) = destuff s.dec.esc b
          then closeOk (s.setDec (storeByte s.dec b)) else closeBad (s.setDec (storeByte s.dec b)))
      else (s.setDec (storeByte s.dec b)).answerNone) := by
  have hn : ¬ 9#4 ≤ s.dec.idx := by revert hi; generalize s.dec.idx = i; revert i; decide
  rw [storeData, if_neg hn]
  by_cases h8 : s.dec.idx = 8#4
  · have h9 : (s.setDec (storeByte s.dec b)).dec.idx = 9#4 := by simp [storeByte, h8]
    have hb : (storeByte s.dec b).buf[8] = destuff s.dec.esc b := by simp [storeByte, h8]
    have ht : (storeByte s.dec b).buf.toList.take 8 = s.dec.buf.toList.take 8 := by
      simp only [storeByte, h8]; exact take_eight_setIfInBounds _ _
    simp only [afterStore_full h9, if_pos h8, checksumMatches, State.setDec_dec, State.setDec_cfg, hb, ht, beq_iff_eq]
  · have h9 : (s.setDec (storeByte s.dec b)).dec.idx ≠ 9#4 := by
      simp only [State.setDec_dec, storeByte]
      revert h8; generalize s.dec.idx = i; revert i; decide
    rw [afterStore_notFull h9, if_neg h8]

/-- A store outside the buffer stops (20_memory R51, log 12). -/
theorem storeData_outOfRange {s : State} (b : Byte) (hi : 9 ≤ s.dec.idx.toNat) :
    storeData b s = .refused .bufferIndexOutOfRange := by
  have h : 9#4 ≤ s.dec.idx := by rw [BitVec.le_def]; simpa using hi
  rw [storeData, if_pos h]

/-! ## Frames -/

@[simp] theorem beBytes_length (n v : Nat) : (beBytes n v).length = n := by
  induction n generalizing v with
  | zero => rfl
  | succ n ih => simp [beBytes, ih]

@[simp] theorem leBytes_length (n v : Nat) : (leBytes n v).length = n := by
  induction n generalizing v with
  | zero => rfl
  | succ n ih => simp [leBytes, ih]

/-- The number of payload bytes of each frame type (30_encoding R84). -/
theorem payloadBytes_length (c : Params) (p : Payload) :
    (payloadBytes c p).length = match p with
      | .gps .. => 15
      | .vario .. => 2
      | .battery .. => 5 + battCapBytes c.battCap
      | .baroAlt .. => 4 := by
  cases p <;> simp [payloadBytes]; omega

/-- Every payload has 2 to 15 bytes (41_crsf R142). -/
theorem payloadBytes_bounds (c : Params) (p : Payload) :
    2 ≤ (payloadBytes c p).length ∧ (payloadBytes c p).length ≤ 15 := by
  rw [payloadBytes_length]
  cases p <;> cases c.battCap <;> simp [battCapBytes]

/-- The size check never fails (41_crsf R142). -/
@[simp] theorem encodePayload_ok (c : Params) (t : Byte) (p : Payload) :
    encodePayload c t p = .ok (frame t (payloadBytes c p)) := by
  have := (payloadBytes_bounds c p).2
  have hn : ¬ crsfMaxFrame < (payloadBytes c p).length + 4 := by unfold crsfMaxFrame; omega
  simp only [encodePayload, if_neg hn]

/-- A frame of 1 to 15 payload bytes is laid out as 30_encoding R83 says. -/
theorem frame_ok (t : Byte) (p : List Byte) (h1 : 1 ≤ p.length) (h2 : p.length ≤ 15) : (frame t p).Ok := by
  have hl : (frame t p).bytes.length = p.length + 4 := by simp [frame]
  refine ⟨?_, ?_, ?_, rfl, ?_, ?_⟩
  · rw [hl]; simp [frame]; omega
  · omega
  · omega
  · simp [frame]; apply BitVec.eq_of_toNat_eq; simp [BitVec.toNat_sub]; omega
  · show ((crsfSync :: BitVec.ofNat 8 (p.length + 2) :: t :: p) ++ [crc8 (t :: p)]).getLast?
      = some (crc8 ((t :: p) ++ [crc8 (t :: p)]).dropLast)
    rw [List.getLast?_concat, List.dropLast_concat]

/-- The frame of a payload is laid out as 30_encoding R83 says. -/
theorem frame_payload_ok (c : Params) (t : Byte) (p : Payload) : (frame t (payloadBytes c p)).Ok :=
  frame_ok t _ (by have := (payloadBytes_bounds c p).1; omega) (payloadBytes_bounds c p).2

/-! ## Freshness -/

/-- A category is 0 ticks old at its own `last_update` (43_outbound_pack R219). -/
@[simp] theorem age_self (c : Params) (now : Timestamp) : age c now now = 0 := by simp [age]

end Sys2Proof.Machine
end

