-- ==== Sys2Proof/Laws/Exec.lean ====
section
/-! SUPPORT. What a transaction that completes can do, said once for each part of the block (00_scope R3): the next
state, written with the operations of Machine/Ops.lean. Later proofs read a `next` through these lemmas instead of
unfolding the meanings. -/

namespace Sys2Proof.Machine

/-- What a byte does to the decoder registers (40_sport R104 to R113): the decoder `d'` after the byte, and what is
answered. -/
inductive DecoderMove (c : Params) (d : Decoder) : Decoder → OutcomeCode → DecodeEvent → Option SensorPacket → Prop
  /-- R104. -/
  | idleStart (h : d.dstate = .idle) :
      DecoderMove c d { d with dstate := .start, esc := false, idx := 0#4 } .ok .none none
  /-- R105. -/
  | idleDiscard (h : d.dstate = .idle) : DecoderMove c d d .ok .none none
  /-- R106. -/
  | startRestart (h : d.dstate = .start) :
      DecoderMove c d { d with esc := d.esc && !c.restartClearsEsc, idx := 0#4 } .ok .none none
  /-- R107 and R109. -/
  | escape (h : d.dstate = .start ∨ d.dstate = .data ∧ d.esc = false) :
      DecoderMove c d { d with esc := true } .ok .none none
  /-- R108. -/
  | startFirst (v : Byte) (h : d.dstate = .start) :
      DecoderMove c d { d with dstate := .data, esc := false, idx := 1#4, buf := d.buf.set 0 v } .ok .none none
  /-- R110 and R111, no close. -/
  | store (v : Byte) (h : d.dstate = .data) (hi : d.idx.toNat < 8) :
      DecoderMove c d { d with esc := false, idx := d.idx + 1#4, buf := d.buf.setIfInBounds d.idx.toNat v }
        .ok .none none
  /-- R110 and R111 with R112. -/
  | storeClose (v : Byte) (h : d.dstate = .data) (hi : d.idx = 8#4)
      (hc : chk c.crcVariant (d.buf.toList.take 8) = v) :
      DecoderMove c d { dstate := .idle, esc := false, idx := 9#4, buf := d.buf.set 8 v }
        .ok .packet (some (assemblePacket (d.buf.set 8 v)))
  /-- R110 and R111 with R113. -/
  | storeDrop (v : Byte) (h : d.dstate = .data) (hi : d.idx = 8#4)
      (hc : chk c.crcVariant (d.buf.toList.take 8) ≠ v) :
      DecoderMove c d { dstate := .idle, esc := false, idx := 9#4, buf := d.buf.set 8 v }
        .frameIntegrity .crcError none
  /-- R112 alone: the row `FRAME.CLOSE.OK`. -/
  | closeOk (h : d.dstate = .data) (hi : d.idx = 9#4) (hc : checksumMatches c d = true) :
      DecoderMove c d { d with dstate := .idle } .ok .packet (some (assemblePacket d.buf))
  /-- R113 alone: the row `FRAME.CLOSE.BAD`. -/
  | closeBad (h : d.dstate = .data) (hi : d.idx = 9#4) (hc : checksumMatches c d = false) :
      DecoderMove c d { d with dstate := .idle } .frameIntegrity .crcError none

/-- A decoder move as a state. -/
def DecoderNext (s t : State) : Prop :=
  ∃ d o e p, DecoderMove s.cfg s.dec d o e p ∧ t = (s.setDec d).answer o (.decoded e p)

theorem setIfInBounds_eight (v : Vector Byte 9) (b : Byte) : v.setIfInBounds (8#4 : BitVec 4).toNat b = v.set 8 b := by
  apply Vector.ext
  intro j hj
  rw [Vector.getElem_setIfInBounds, Vector.getElem_set]
  rfl

theorem storeData_move {b : Byte} {s t : State} (hd : s.dec.dstate = .data) (h : storeData b s = .next t) :
    DecoderNext s t := by
  have hi : s.dec.idx.toNat ≤ 8 := by
    have := (storeData_next h).1
    revert this; generalize s.dec.idx = i; revert i; decide
  rw [storeData_inRange s b hi] at h
  have h := (Host.Outcome.next.inj h).symm
  split_ifs at h with h8 hc
  · refine ⟨_, _, _, _, .storeClose _ hd h8 hc, ?_⟩
    subst h; simp only [closeOk, State.setDec, storeByte, h8, setIfInBounds_eight]; rfl
  · refine ⟨_, _, _, _, .storeDrop _ hd h8 hc, ?_⟩
    subst h; simp only [closeBad, State.setDec, storeByte, h8, setIfInBounds_eight]; rfl
  · refine ⟨_, _, _, _, .store (destuff s.dec.esc b) hd ?_, ?_⟩
    · revert hi h8; generalize s.dec.idx = i; revert i; decide
    · subst h; rfl

/-- `PB`, where it completes. -/
theorem execPb_next {b : Byte} {s t : State} (h : execPb b s = .next t) : DecoderNext s t := by
  cases hd : s.dec.dstate
  · rw [execPb_idle hd] at h
    split_ifs at h <;> cases h
    · exact ⟨_, _, _, _, .idleStart hd, rfl⟩
    · exact ⟨_, _, _, _, .idleDiscard hd, rfl⟩
  · rw [execPb_start hd] at h
    split_ifs at h <;> cases h
    · exact ⟨_, _, _, _, .startRestart hd, rfl⟩
    · exact ⟨_, _, _, _, .escape (.inl hd), rfl⟩
    · exact ⟨_, _, _, _, .startFirst _ hd, rfl⟩
  · rw [execPb_data hd] at h
    split_ifs at h with he
    · cases h; exact ⟨_, _, _, _, .escape (.inr ⟨hd, he.1⟩), rfl⟩
    · exact storeData_move hd h
  · rw [execPb_invalid hd] at h; cases h

/-- A case row of `PB` that completes does what the `PB` does (30_encoding R72). -/
theorem whenSelected_eq_execPb {row : SportRow} {esc : Bool} {b : Byte} {s t : State} {run : Result}
    (h : whenSelected row esc b s run = .next t)
    (hrun : selectSport (s.dec.key b) = row → execPb b s = run) : execPb b s = .next t := by
  obtain ⟨h1, -, h3⟩ := whenSelected_next h
  rw [hrun h1, h3]

/-- The close rows complete only on a full buffer in `Data` (30_encoding R75). -/
theorem selectClose_closeKey {c : Params} {d : Decoder} {r : CloseRow} (h : selectClose (closeKey c d) = some r) :
    d.idx = 9#4 ∧ checksumMatches c d = (r == .ok) := by
  rw [selectClose_closeKey_eq] at h
  split_ifs at h with h9 hm <;> cases h <;> simp [h9, checksumMatches, hm]

/-- The decoder's rows, where they complete. -/
theorem exec_decoder_next {i : Instr} {s t : State} (hf : familyOf i = .decoder) (h : exec i s = .next t) :
    DecoderNext s t := by
  cases i <;> simp only [familyOf, reduceCtorEq] at hf
  case pb => exact execPb_next h
  case idleStart => exact execPb_next (whenSelected_eq_execPb h fun h => by rw [execPb, h])
  case idleDiscard => exact execPb_next (whenSelected_eq_execPb h fun h => by rw [execPb, h])
  case startRestart => exact execPb_next (whenSelected_eq_execPb h fun h => by rw [execPb, h])
  case startEsc => exact execPb_next (whenSelected_eq_execPb h fun h => by rw [execPb, h])
  case startFirst => exact execPb_next (whenSelected_eq_execPb h fun h => by rw [execPb, h])
  case dataEsc => exact execPb_next (whenSelected_eq_execPb h fun h => by rw [execPb, h])
  case dataStorePlain => exact execPb_next (whenSelected_eq_execPb h fun h => by rw [execPb, h])
  case dataStoreEscaped => exact execPb_next (whenSelected_eq_execPb h fun h => by rw [execPb, h])
  case dstateInvalid => exact execPb_next (whenSelected_eq_execPb h fun h => by rw [execPb, h])
  case frameCloseOk =>
    simp only [exec, execFrameCloseOk] at h
    split_ifs at h with hc
    obtain ⟨h1, h2⟩ := selectClose_closeKey hc.2
    cases h; exact ⟨_, _, _, _, .closeOk hc.1 h1 h2, rfl⟩
  case frameCloseBad =>
    simp only [exec, execFrameCloseBad] at h
    split_ifs at h with hc
    obtain ⟨h1, h2⟩ := selectClose_closeKey hc.2
    cases h; exact ⟨_, _, _, _, .closeBad hc.1 h1 h2, rfl⟩

/-- What an encoder or packer row answers: a well-laid frame, a payload, or a refusal. -/
inductive Answered (s : State) : State → Prop
  | frame (f : OutboundFrame) (hf : f.Ok) : Answered s (s.answer .ok (.frame f))
  | payload (p : Option Payload) : Answered s (s.answer (buildOutcome p) (.payload p))
  | refused : Answered s s.refuse

theorem encodeAs_eq (cat : Category) (p : Payload) (s : State) :
    encodeAs cat p s = .next (if payloadTag p = frameTypeOf cat
      then s.answer .ok (.frame (frame (frameTypeOf cat) (payloadBytes s.cfg p))) else s.refuse) := by
  unfold encodeAs
  split_ifs
  · simp only [encodePayload_ok]
  · rfl

theorem encodeAs_next {cat : Category} {p : Payload} {s t : State} (h : encodeAs cat p s = .next t) : Answered s t := by
  rw [encodeAs_eq] at h
  split_ifs at h <;> cases h
  · exact .frame _ (frame_payload_ok _ _ _)
  · exact .refused

theorem buildAs_next {cat : Category} {now : Timestamp} {s t : State} (h : buildAs cat now s = .next t) :
    Answered s t := by
  cases h; exact .payload _

/-- The encoder's and the packer's rows and the reserved selector, where they complete. -/
theorem exec_answered {i : Instr} {s t : State}
    (hf : familyOf i = .encoder ∨ familyOf i = .packer ∨ familyOf i = .reserved) (h : exec i s = .next t) :
    Answered s t := by
  cases i <;> simp only [familyOf, reduceCtorEq, or_self, or_false, false_or] at hf <;> simp only [exec] at h
  case enc ft p =>
    unfold execEnc at h
    split at h <;> first | exact encodeAs_next h | (cases h; exact .refused)
  case hb => cases h; exact .frame _ (frame_ok _ _ (by simp) (by simp))
  case bld cat now =>
    unfold execBld at h
    split at h <;> first | exact buildAs_next h | (cases h; exact .refused)
  case reserved => cases h; exact .refused
  case encGps => exact encodeAs_next h
  case encVario => exact encodeAs_next h
  case encBattery => exact encodeAs_next h
  case encBaro => exact encodeAs_next h
  case encHeartbeatType => cases h; exact .refused
  case encRefused => unfold execEncRefused at h; split_ifs at h; cases h; exact .refused
  case bldGps => exact buildAs_next h
  case bldVario => exact buildAs_next h
  case bldBattery => exact buildAs_next h
  case bldBaro => exact buildAs_next h
  case bldRefused => unfold execBldRefused at h; split_ifs at h; cases h; exact .refused

/-- The unpacker's rows, where they complete: the snapshot is that of the row's case (42_sensor_unpack R170). -/
theorem exec_unpacker_next {i : Instr} {s t : State} (hf : familyOf i = .unpacker) (h : exec i s = .next t) :
    ∃ raw row, updRowOf s.cfg i = some row ∧
      t = (s.setSnap (storeRow raw (nowOf i) s.snap row)).answer .ok .nothing := by
  cases i <;> simp only [familyOf, reduceCtorEq] at hf <;> simp only [exec] at h
  case updOther =>
    unfold execUpdOther at h; split_ifs at h; cases h; exact ⟨0#32, _, rfl, rfl⟩
  all_goals cases h; exact ⟨_, _, rfl, rfl⟩

/-- The end of a `CONV`: the size check never fails (41_crsf R142). -/
theorem convertRouted_eq (cat : Category) (now : Timestamp) (s : State) :
    convertRouted cat now s = if fresh s.cfg s.snap cat now then
        let f := frame (frameTypeOf cat) (payloadBytes s.cfg (packPayload s.snap cat))
        (s.transmit f).answer .ok (.converted (some f))
      else s.answer .staleData (.converted none) := by
  unfold convertRouted buildOutbound
  split_ifs <;> simp only [encodePayload_ok]

/-- `CONV` always completes (43_outbound_pack R218): it updates as `UPD` does, and where the identifier routes to a
category that is then fresh it answers and transmits that category's frame. -/
theorem execConv_eq (p : SensorPacket) (now : Timestamp) (s : State) :
    execConv p now s = .next (
      match route s.cfg p.dataId with
      | none => (s.setSnap (update s.cfg p now s.snap)).answer .ok (.converted none)
      | some cat =>
        if fresh s.cfg (update s.cfg p now s.snap) cat now then
          let f := frame (frameTypeOf cat) (payloadBytes s.cfg (packPayload (update s.cfg p now s.snap) cat))
          ((s.setSnap (update s.cfg p now s.snap)).transmit f).answer .ok (.converted (some f))
        else (s.setSnap (update s.cfg p now s.snap)).answer .staleData (.converted none)) := by
  unfold execConv
  cases hr : route s.cfg p.dataId with
  | none => simp only [State.setSnap_cfg, hr]
  | some cat => simp only [State.setSnap_cfg, hr, convertRouted_eq]; rfl

/-- A category is fresh where its mark is set and its age is below the timeout (43_outbound_pack R211). -/
theorem fresh_iff (c : Params) (snap : Snapshot) (cat : Category) (now : Timestamp) :
    fresh c snap cat now = true ↔ snap.validOf cat = true ∧
      ((now : Int) - snap.lastUpdateOf cat) % 2 ^ c.tsBits < c.stalenessTimeout := by
  have := Int.emod_nonneg ((now : Int) - snap.lastUpdateOf cat) (b := 2 ^ c.tsBits) (by positivity)
  unfold fresh
  rw [Bool.and_eq_true, decide_eq_true_eq]
  unfold age
  rw [Int.toNat_lt this]

/-- `BLD` of a category's own code (30_encoding R85). -/
theorem execBld_frameTypeOf (cat : Category) (now : Timestamp) (s : State) :
    execBld (frameTypeOf cat) now s = buildAs cat now s := by
  cases cat <;> rfl

/-- `ENC` of a category's own frame type (30_encoding R85). -/
theorem execEnc_frameTypeOf (cat : Category) (p : Payload) (s : State) :
    execEnc (frameTypeOf cat) p s = encodeAs cat p s := by
  cases cat <;> rfl

end Sys2Proof.Machine
end

