-- ==== Sys2Proof/Laws/PerInstr.lean ====
section
/-! SUPPORT. Facts about every instruction as syntax, one lemma per constructor. -/

namespace Sys2Proof.Laws.EncodeShape

/-- The format of opcode_table.json whose row an instruction is (30_encoding R92). -/
def formatOf : Instr → KeyFormat
  | .pb _ => .command
  | .enc _ _ => .command
  | .hb => .command
  | .upd _ _ => .command
  | .bld _ _ => .command
  | .conv _ _ => .command
  | .reset => .command
  | .reserved => .command
  | .idleStart _ => .sportKey
  | .idleDiscard _ _ => .sportKey
  | .startRestart _ => .sportKey
  | .startEsc _ => .sportKey
  | .startFirst _ _ => .sportKey
  | .dataEsc => .sportKey
  | .dataStorePlain _ => .sportKey
  | .dataStoreEscaped _ => .sportKey
  | .dstateInvalid _ _ => .sportKey
  | .frameCloseOk => .sportClose
  | .frameCloseBad => .sportClose
  | .encGps _ => .crsfType
  | .encVario _ => .crsfType
  | .encBattery _ => .crsfType
  | .encBaro _ => .crsfType
  | .encHeartbeatType _ => .crsfType
  | .encRefused _ _ => .crsfType
  | .bldGps _ => .bldCategory
  | .bldVario _ => .bldCategory
  | .bldBattery _ => .bldCategory
  | .bldBaro _ => .bldCategory
  | .bldRefused _ _ => .bldCategory
  | .updGpsCoord _ _ _ _ => .sportDataId
  | .updGpsAlt _ _ _ _ => .sportDataId
  | .updGpsSpeed _ _ _ _ => .sportDataId
  | .updGpsHeading _ _ _ _ => .sportDataId
  | .updVoltage _ _ _ _ => .sportDataId
  | .updCurrent _ _ _ _ => .sportDataId
  | .updFuel _ _ _ _ => .sportDataId
  | .updBaroAlt _ _ _ _ => .sportDataId
  | .updVario _ _ _ _ => .sportDataId
  | .updOther _ _ => .sportDataId

/-- The word of an instruction starts with a header byte that names its format: below 8, a command's `op`, for a command
(30_encoding R70), and the format's own header otherwise (notes/assumptions/2.md). -/
def Statement (i : Instr) : Prop :=
  ∀ c : Params, ∃ (h : Byte) (t : List Byte), encode c i = h :: t ∧
    (formatOf i = .command → h.toNat < 8) ∧ (formatOf i ≠ .command → h = (formatOf i).header)

theorem pb (b : Byte) : Statement (.pb b) :=
  fun _ => ⟨_, _, rfl, by simp [formatOf], by simp [formatOf, KeyFormat.header]⟩

theorem enc (ft : Byte) (p : Payload) : Statement (.enc ft p) :=
  fun _ => ⟨_, _, rfl, by simp [formatOf], by simp [formatOf, KeyFormat.header]⟩

theorem hb : Statement .hb :=
  fun _ => ⟨_, _, rfl, by simp [formatOf], by simp [formatOf, KeyFormat.header]⟩

theorem upd (p : SensorPacket) (now : Timestamp) : Statement (.upd p now) :=
  fun _ => ⟨_, _, rfl, by simp [formatOf], by simp [formatOf, KeyFormat.header]⟩

theorem bld (cat : Byte) (now : Timestamp) : Statement (.bld cat now) :=
  fun _ => ⟨_, _, rfl, by simp [formatOf], by simp [formatOf, KeyFormat.header]⟩

theorem conv (p : SensorPacket) (now : Timestamp) : Statement (.conv p now) :=
  fun _ => ⟨_, _, rfl, by simp [formatOf], by simp [formatOf, KeyFormat.header]⟩

theorem reset : Statement .reset :=
  fun _ => ⟨_, _, rfl, by simp [formatOf], by simp [formatOf, KeyFormat.header]⟩

theorem reserved : Statement .reserved :=
  fun _ => ⟨_, _, rfl, by simp [formatOf], by simp [formatOf, KeyFormat.header]⟩

theorem idleStart (e : Bool) : Statement (.idleStart e) :=
  fun _ => ⟨_, _, rfl, by simp [formatOf], by simp [formatOf, KeyFormat.header]⟩

theorem idleDiscard (e : Bool) (b : Byte) : Statement (.idleDiscard e b) :=
  fun _ => ⟨_, _, rfl, by simp [formatOf], by simp [formatOf, KeyFormat.header]⟩

theorem startRestart (e : Bool) : Statement (.startRestart e) :=
  fun _ => ⟨_, _, rfl, by simp [formatOf], by simp [formatOf, KeyFormat.header]⟩

theorem startEsc (e : Bool) : Statement (.startEsc e) :=
  fun _ => ⟨_, _, rfl, by simp [formatOf], by simp [formatOf, KeyFormat.header]⟩

theorem startFirst (e : Bool) (b : Byte) : Statement (.startFirst e b) :=
  fun _ => ⟨_, _, rfl, by simp [formatOf], by simp [formatOf, KeyFormat.header]⟩

theorem dataEsc : Statement .dataEsc :=
  fun _ => ⟨_, _, rfl, by simp [formatOf], by simp [formatOf, KeyFormat.header]⟩

theorem dataStorePlain (b : Byte) : Statement (.dataStorePlain b) :=
  fun _ => ⟨_, _, rfl, by simp [formatOf], by simp [formatOf, KeyFormat.header]⟩

theorem dataStoreEscaped (b : Byte) : Statement (.dataStoreEscaped b) :=
  fun _ => ⟨_, _, rfl, by simp [formatOf], by simp [formatOf, KeyFormat.header]⟩

theorem dstateInvalid (e : Bool) (b : Byte) : Statement (.dstateInvalid e b) :=
  fun _ => ⟨_, _, rfl, by simp [formatOf], by simp [formatOf, KeyFormat.header]⟩

theorem frameCloseOk : Statement .frameCloseOk :=
  fun _ => ⟨_, _, rfl, by simp [formatOf], by simp [formatOf, KeyFormat.header]⟩

theorem frameCloseBad : Statement .frameCloseBad :=
  fun _ => ⟨_, _, rfl, by simp [formatOf], by simp [formatOf, KeyFormat.header]⟩

theorem encGps (p : Payload) : Statement (.encGps p) :=
  fun _ => ⟨_, _, rfl, by simp [formatOf], by simp [formatOf, KeyFormat.header]⟩

theorem encVario (p : Payload) : Statement (.encVario p) :=
  fun _ => ⟨_, _, rfl, by simp [formatOf], by simp [formatOf, KeyFormat.header]⟩

theorem encBattery (p : Payload) : Statement (.encBattery p) :=
  fun _ => ⟨_, _, rfl, by simp [formatOf], by simp [formatOf, KeyFormat.header]⟩

theorem encBaro (p : Payload) : Statement (.encBaro p) :=
  fun _ => ⟨_, _, rfl, by simp [formatOf], by simp [formatOf, KeyFormat.header]⟩

theorem encHeartbeatType (p : Payload) : Statement (.encHeartbeatType p) :=
  fun _ => ⟨_, _, rfl, by simp [formatOf], by simp [formatOf, KeyFormat.header]⟩

theorem encRefused (ft : Byte) (p : Payload) : Statement (.encRefused ft p) :=
  fun _ => ⟨_, _, rfl, by simp [formatOf], by simp [formatOf, KeyFormat.header]⟩

theorem bldGps (now : Timestamp) : Statement (.bldGps now) :=
  fun _ => ⟨_, _, rfl, by simp [formatOf], by simp [formatOf, KeyFormat.header]⟩

theorem bldVario (now : Timestamp) : Statement (.bldVario now) :=
  fun _ => ⟨_, _, rfl, by simp [formatOf], by simp [formatOf, KeyFormat.header]⟩

theorem bldBattery (now : Timestamp) : Statement (.bldBattery now) :=
  fun _ => ⟨_, _, rfl, by simp [formatOf], by simp [formatOf, KeyFormat.header]⟩

theorem bldBaro (now : Timestamp) : Statement (.bldBaro now) :=
  fun _ => ⟨_, _, rfl, by simp [formatOf], by simp [formatOf, KeyFormat.header]⟩

theorem bldRefused (cat : Byte) (now : Timestamp) : Statement (.bldRefused cat now) :=
  fun _ => ⟨_, _, rfl, by simp [formatOf], by simp [formatOf, KeyFormat.header]⟩

theorem updGpsCoord (sid : Byte) (fid : Byte) (raw : Word) (now : Timestamp) : Statement (.updGpsCoord sid fid raw now) :=
  fun _ => ⟨_, _, rfl, by simp [formatOf], by simp [formatOf, KeyFormat.header]⟩

theorem updGpsAlt (sid : Byte) (fid : Byte) (raw : Word) (now : Timestamp) : Statement (.updGpsAlt sid fid raw now) :=
  fun _ => ⟨_, _, rfl, by simp [formatOf], by simp [formatOf, KeyFormat.header]⟩

theorem updGpsSpeed (sid : Byte) (fid : Byte) (raw : Word) (now : Timestamp) : Statement (.updGpsSpeed sid fid raw now) :=
  fun _ => ⟨_, _, rfl, by simp [formatOf], by simp [formatOf, KeyFormat.header]⟩

theorem updGpsHeading (sid : Byte) (fid : Byte) (raw : Word) (now : Timestamp) : Statement (.updGpsHeading sid fid raw now) :=
  fun _ => ⟨_, _, rfl, by simp [formatOf], by simp [formatOf, KeyFormat.header]⟩

theorem updVoltage (sid : Byte) (fid : Byte) (raw : Word) (now : Timestamp) : Statement (.updVoltage sid fid raw now) :=
  fun _ => ⟨_, _, rfl, by simp [formatOf], by simp [formatOf, KeyFormat.header]⟩

theorem updCurrent (sid : Byte) (fid : Byte) (raw : Word) (now : Timestamp) : Statement (.updCurrent sid fid raw now) :=
  fun _ => ⟨_, _, rfl, by simp [formatOf], by simp [formatOf, KeyFormat.header]⟩

theorem updFuel (sid : Byte) (fid : Byte) (raw : Word) (now : Timestamp) : Statement (.updFuel sid fid raw now) :=
  fun _ => ⟨_, _, rfl, by simp [formatOf], by simp [formatOf, KeyFormat.header]⟩

theorem updBaroAlt (sid : Byte) (fid : Byte) (raw : Word) (now : Timestamp) : Statement (.updBaroAlt sid fid raw now) :=
  fun _ => ⟨_, _, rfl, by simp [formatOf], by simp [formatOf, KeyFormat.header]⟩

theorem updVario (sid : Byte) (fid : Byte) (raw : Word) (now : Timestamp) : Statement (.updVario sid fid raw now) :=
  fun _ => ⟨_, _, rfl, by simp [formatOf], by simp [formatOf, KeyFormat.header]⟩

theorem updOther (p : SensorPacket) (now : Timestamp) : Statement (.updOther p now) :=
  fun _ => ⟨_, _, rfl, by simp [formatOf], by simp [formatOf, KeyFormat.header]⟩

end Sys2Proof.Laws.EncodeShape
end

