-- ==== Sys2Proof/Tests/Slice0.lean ====
section
/-! SUPPORT. Tests and witnesses. The expected values are those of spec/95_test_vectors.md (named T-… and W…) or are
worked out by hand from the encoding tables of spec/30_encoding.md; none is the model's own answer.
The witnesses of the second half show, for each statement with hypotheses, a concrete state and operands that meet them. -/

namespace Sys2Proof.Tests

open Sys2Proof Sys2Proof.Machine

set_option maxRecDepth 8000

/-! ## Helpers -/

/-- The default parameters. -/
def cfg : Params := Params.default

/-- The reset state with other decoder registers. -/
def withDec (d : Decoder) : State := { State.reset with dec := d }

/-- The reset state with other parameters. -/
def withCfg (c : Params) : State := { State.reset with cfg := c }

/-- A decoder in `Data` with the first eight bytes of T-D1's frame and `last` in the ninth place. -/
def dataDec (esc : Bool) (idx : BitVec 4) (last : Byte) : Decoder where
  dstate := .data
  esc := esc
  idx := idx
  buf := #v[0x98#8, 0x10#8, 0x00#8, 0x08#8, 0x4E#8, 0x61#8, 0xBC#8, 0x80#8, last]

/-- A decoder in another state, its buffer as above. -/
def decIn (st : DState) (esc : Bool) (idx : BitVec 4) : Decoder := { dataDec esc idx 0x00#8 with dstate := st }

/-- The packet of T-D1. -/
def packetD1 : SensorPacket := ⟨0x98#8, 0x10#8, 0x0800#16, 0x80BC614E#32⟩

/-- What `exec` answers on the output port. -/
def answer (i : Instr) (s : State) : Option Report := answered (exec i s)

/-- The state a completing transaction leaves; `s` where it stops. -/
def after (i : Instr) (s : State) : State :=
  match exec i s with
  | .next t => t
  | .fault _ => s
  | .refused _ => s

/-- Whether an outcome is a next state. -/
def goesOn : Host.Outcome State Fault Refusal → Bool
  | .next _ => true
  | .fault _ => false
  | .refused _ => false

/-- Whether a transaction goes on to a next state. -/
def completes (i : Instr) (s : State) : Bool := goesOn (exec i s)

/-- Whether an outcome is the next state `t`. -/
def goesTo (r : Host.Outcome State Fault Refusal) (t : State) : Bool :=
  match r with
  | .next u => decide (u = t)
  | .fault _ => false
  | .refused _ => false

/-- Whether an outcome is the fault `f`. -/
def faultsWith (r : Host.Outcome State Fault Refusal) (f : Fault) : Bool :=
  match r with
  | .next _ => false
  | .fault g => decide (g = f)
  | .refused _ => false

/-- Whether an outcome is the refusal `f`. -/
def refusesWith (r : Host.Outcome State Fault Refusal) (f : Refusal) : Bool :=
  match r with
  | .next _ => false
  | .fault _ => false
  | .refused g => decide (g = f)

/-- The bytes of the frame a transaction answers. -/
def frameBytes (i : Instr) (s : State) : List Byte :=
  match answer i s with
  | some ⟨.ok, .frame f⟩ => f.bytes
  | some ⟨.ok, .converted (some f)⟩ => f.bytes
  | _ => []

/-- The state after an `UPD` of an identifier at time `now`, from reset. -/
def upd (did : Half) (raw : Word) (now : Timestamp) (s : State) : State := after (.upd ⟨0x98#8, 0x10#8, did, raw⟩ now) s

/-! ## WellFormed: each check refuses an ill-formed term -/

/-- `now` must fit `TS_BITS` (30_encoding R71). -/
theorem test_wellFormed_now :
    Instr.wellFormed cfg (.upd packetD1 (2 ^ 32)) = false ∧ Instr.wellFormed cfg (.upd packetD1 (2 ^ 32 - 1)) = true ∧
    Instr.wellFormed cfg (.bld 0x02#8 (2 ^ 32)) = false ∧ Instr.wellFormed cfg (.conv packetD1 (2 ^ 32)) = false ∧
    Instr.wellFormed cfg (.bldGps (2 ^ 32)) = false ∧ Instr.wellFormed cfg (.bldVario (2 ^ 32)) = false ∧
    Instr.wellFormed cfg (.bldBattery (2 ^ 32)) = false ∧ Instr.wellFormed cfg (.bldBaro (2 ^ 32)) = false ∧
    Instr.wellFormed cfg (.bldRefused 0x03#8 (2 ^ 32)) = false ∧
    Instr.wellFormed cfg (.updGpsCoord 0#8 0#8 0#32 (2 ^ 32)) = false ∧
    Instr.wellFormed cfg (.updGpsAlt 0#8 0#8 0#32 (2 ^ 32)) = false ∧
    Instr.wellFormed cfg (.updGpsSpeed 0#8 0#8 0#32 (2 ^ 32)) = false ∧
    Instr.wellFormed cfg (.updGpsHeading 0#8 0#8 0#32 (2 ^ 32)) = false ∧
    Instr.wellFormed cfg (.updVoltage 0#8 0#8 0#32 (2 ^ 32)) = false ∧
    Instr.wellFormed cfg (.updCurrent 0#8 0#8 0#32 (2 ^ 32)) = false ∧
    Instr.wellFormed cfg (.updFuel 0#8 0#8 0#32 (2 ^ 32)) = false ∧
    Instr.wellFormed cfg (.updBaroAlt 0#8 0#8 0#32 (2 ^ 32)) = false ∧
    Instr.wellFormed cfg (.updVario 0#8 0#8 0#32 (2 ^ 32)) = false ∧
    Instr.wellFormed cfg (.updOther ⟨0#8, 0#8, 0x0500#16, 0#32⟩ (2 ^ 32)) = false := by
  decide

/-- A decoder row holds no byte that an earlier row of its state takes (30_encoding R72, R74). -/
theorem test_wellFormed_decoderBytes :
    Instr.wellFormed cfg (.idleDiscard false 0x7E#8) = false ∧ Instr.wellFormed cfg (.startFirst false 0x7E#8) = false ∧
    Instr.wellFormed cfg (.startFirst true 0x7D#8) = false ∧ Instr.wellFormed cfg (.dataStorePlain 0x7D#8) = false ∧
    Instr.wellFormed cfg (.idleDiscard false 0x7D#8) = true ∧ Instr.wellFormed cfg (.dataStorePlain 0x7E#8) = true := by
  decide

/-- The last row of a table holds no key of an earlier row (30_encoding R82, R85). -/
theorem test_wellFormed_lastRows :
    Instr.wellFormed cfg (.encRefused 0x02#8 (.vario 0#16)) = false ∧
    Instr.wellFormed cfg (.encRefused 0x07#8 (.vario 0#16)) = false ∧
    Instr.wellFormed cfg (.encRefused 0x08#8 (.vario 0#16)) = false ∧
    Instr.wellFormed cfg (.encRefused 0x09#8 (.vario 0#16)) = false ∧
    Instr.wellFormed cfg (.encRefused 0x0B#8 (.vario 0#16)) = false ∧
    Instr.wellFormed cfg (.encRefused 0x03#8 (.vario 0#16)) = true ∧
    Instr.wellFormed cfg (.bldRefused 0x02#8 0) = false ∧ Instr.wellFormed cfg (.bldRefused 0x07#8 0) = false ∧
    Instr.wellFormed cfg (.bldRefused 0x08#8 0) = false ∧ Instr.wellFormed cfg (.bldRefused 0x09#8 0) = false ∧
    Instr.wellFormed cfg (.bldRefused 0x0B#8 0) = true ∧
    Instr.wellFormed cfg (.updOther packetD1 0) = false ∧
    Instr.wellFormed cfg (.updOther ⟨0#8, 0#8, 0x0110#16, 0#32⟩ 0) = false ∧
    Instr.wellFormed cfg (.updOther ⟨0#8, 0#8, 0x0500#16, 0#32⟩ 0) = true := by
  decide

/-! ## Decode: a word of every constructor, written out from 30_encoding -/

/-- Format `command`: `op` 0 to 7 (30_encoding R70), operands least significant byte first. -/
theorem test_decode_command :
    decode cfg [0x00#8, 0x7E#8] = .ok (.pb 0x7E#8) ∧
    decode cfg [0x01#8, 0x09#8, 0x03#8, 0xFF#8, 0xFF#8, 0xCE#8, 0xFF#8]
      = .ok (.enc 0x09#8 (.baroAlt 0xFFFF#16 0xFFCE#16)) ∧
    decode cfg [0x02#8] = .ok .hb ∧
    decode cfg [0x03#8, 0x98#8, 0x10#8, 0x00#8, 0x08#8, 0x4E#8, 0x61#8, 0xBC#8, 0x80#8, 0xE8#8, 0x03#8, 0x00#8, 0x00#8]
      = .ok (.upd packetD1 1000) ∧
    decode cfg [0x04#8, 0x02#8, 0x14#8, 0xA5#8, 0x07#8, 0x00#8] = .ok (.bld 0x02#8 501012) ∧
    decode cfg [0x05#8, 0x98#8, 0x10#8, 0x00#8, 0x08#8, 0x4E#8, 0x61#8, 0xBC#8, 0x80#8, 0xE8#8, 0x03#8, 0x00#8, 0x00#8]
      = .ok (.conv packetD1 1000) ∧
    decode cfg [0x06#8] = .ok .reset ∧
    decode cfg [0x07#8] = .ok .reserved := by
  decide

/-- Format `sport_key`, the 11 bits `dstate esc byte` (30_encoding R73, R74): `00 0 0111 1110` is 0x07E,
`00 1 0111 1101` 0x17D, `01 0 0111 1110` 0x27E, `01 1 0111 1101` 0x37D, `01 1 0101 1110` 0x35E, `10 0 0111 1101` 0x47D,
`10 0 0111 1110` 0x47E, `10 1 0101 1101` 0x55D, `11 1 0000 0001` 0x701. -/
theorem test_decode_sportKey :
    decode cfg [0x08#8, 0x7E#8, 0x00#8] = .ok (.idleStart false) ∧
    decode cfg [0x08#8, 0x7D#8, 0x01#8] = .ok (.idleDiscard true 0x7D#8) ∧
    decode cfg [0x08#8, 0x7E#8, 0x02#8] = .ok (.startRestart false) ∧
    decode cfg [0x08#8, 0x7D#8, 0x03#8] = .ok (.startEsc true) ∧
    decode cfg [0x08#8, 0x5E#8, 0x03#8] = .ok (.startFirst true 0x5E#8) ∧
    decode cfg [0x08#8, 0x7D#8, 0x04#8] = .ok .dataEsc ∧
    decode cfg [0x08#8, 0x7E#8, 0x04#8] = .ok (.dataStorePlain 0x7E#8) ∧
    decode cfg [0x08#8, 0x5D#8, 0x05#8] = .ok (.dataStoreEscaped 0x5D#8) ∧
    decode cfg [0x08#8, 0x01#8, 0x07#8] = .ok (.dstateInvalid true 0x01#8) := by
  decide

/-- Format `sport_close`, `full match` (30_encoding R75): 3 and 2; with `full` = 0 no close. -/
theorem test_decode_sportClose :
    decode cfg [0x10#8, 0x03#8] = .ok .frameCloseOk ∧ decode cfg [0x10#8, 0x02#8] = .ok .frameCloseBad ∧
    decode cfg [0x10#8, 0x01#8] = .error .closeNotFull := by
  decide

/-- Format `crsf_type` (30_encoding R85). -/
theorem test_decode_crsfType :
    decode cfg [0x18#8, 0x02#8, 0x00#8, 0x80#8, 0x6D#8, 0xBA#8, 0xF8#8, 0xC0#8, 0x0B#8, 0x5A#8, 0x16#8, 0xB9#8, 0x00#8,
      0xB4#8, 0x00#8, 0x63#8, 0x04#8, 0x07#8]
      = .ok (.encGps (.gps 0xF8BA6D80#32 0x165A0BC0#32 0x00B9#16 0x00B4#16 0x0463#16 0x07#8)) ∧
    decode cfg [0x18#8, 0x07#8, 0x01#8, 0xCE#8, 0xFF#8] = .ok (.encVario (.vario 0xFFCE#16)) ∧
    decode cfg [0x18#8, 0x08#8, 0x02#8, 0x38#8, 0x31#8, 0xDC#8, 0x05#8, 0x56#8, 0x34#8, 0x12#8, 0xAB#8, 0x50#8]
      = .ok (.encBattery (.battery 0x3138#16 0x05DC#16 0xAB123456#32 0x50#8)) ∧
    decode cfg [0x18#8, 0x09#8, 0x03#8, 0xD2#8, 0x04#8, 0xFA#8, 0x00#8]
      = .ok (.encBaro (.baroAlt 0x04D2#16 0x00FA#16)) ∧
    decode cfg [0x18#8, 0x0B#8, 0x01#8, 0x00#8, 0x00#8] = .ok (.encHeartbeatType (.vario 0#16)) ∧
    decode cfg [0x18#8, 0x03#8, 0x01#8, 0x00#8, 0x00#8] = .ok (.encRefused 0x03#8 (.vario 0#16)) := by
  decide

/-- Format `bld_category` (30_encoding R85). -/
theorem test_decode_bldCategory :
    decode cfg [0x20#8, 0x02#8, 0x05#8, 0x00#8, 0x00#8, 0x00#8] = .ok (.bldGps 5) ∧
    decode cfg [0x20#8, 0x07#8, 0x05#8, 0x00#8, 0x00#8, 0x00#8] = .ok (.bldVario 5) ∧
    decode cfg [0x20#8, 0x08#8, 0x05#8, 0x00#8, 0x00#8, 0x00#8] = .ok (.bldBattery 5) ∧
    decode cfg [0x20#8, 0x09#8, 0x05#8, 0x00#8, 0x00#8, 0x00#8] = .ok (.bldBaro 5) ∧
    decode cfg [0x20#8, 0x0B#8, 0x05#8, 0x00#8, 0x00#8, 0x80#8] = .ok (.bldRefused 0x0B#8 0x80000005) := by
  decide

/-- The rest of a `sport_data_id` word: a packet's other fields and `now`. -/
def idTail : List Byte := [0x98#8, 0x10#8, 0x4E#8, 0x61#8, 0xBC#8, 0x80#8, 0xE8#8, 0x03#8, 0x00#8, 0x00#8]

/-- Format `sport_data_id` (30_encoding R82), with the default identifiers of 00_scope R5. -/
theorem test_decode_sportDataId :
    decode cfg (0x28#8 :: 0x00#8 :: 0x08#8 :: idTail) = .ok (.updGpsCoord 0x98#8 0x10#8 0x80BC614E#32 1000) ∧
    decode cfg (0x28#8 :: 0x20#8 :: 0x08#8 :: idTail) = .ok (.updGpsAlt 0x98#8 0x10#8 0x80BC614E#32 1000) ∧
    decode cfg (0x28#8 :: 0x30#8 :: 0x08#8 :: idTail) = .ok (.updGpsSpeed 0x98#8 0x10#8 0x80BC614E#32 1000) ∧
    decode cfg (0x28#8 :: 0x40#8 :: 0x08#8 :: idTail) = .ok (.updGpsHeading 0x98#8 0x10#8 0x80BC614E#32 1000) ∧
    decode cfg (0x28#8 :: 0x10#8 :: 0x02#8 :: idTail) = .ok (.updVoltage 0x98#8 0x10#8 0x80BC614E#32 1000) ∧
    decode cfg (0x28#8 :: 0x00#8 :: 0x02#8 :: idTail) = .ok (.updCurrent 0x98#8 0x10#8 0x80BC614E#32 1000) ∧
    decode cfg (0x28#8 :: 0x00#8 :: 0x06#8 :: idTail) = .ok (.updFuel 0x98#8 0x10#8 0x80BC614E#32 1000) ∧
    decode cfg (0x28#8 :: 0x00#8 :: 0x01#8 :: idTail) = .ok (.updBaroAlt 0x98#8 0x10#8 0x80BC614E#32 1000) ∧
    decode cfg (0x28#8 :: 0x10#8 :: 0x01#8 :: idTail) = .ok (.updVario 0x98#8 0x10#8 0x80BC614E#32 1000) ∧
    decode cfg (0x28#8 :: 0x00#8 :: 0x05#8 :: idTail)
      = .ok (.updOther ⟨0x98#8, 0x10#8, 0x0500#16, 0x80BC614E#32⟩ 1000) := by
  decide

/-- Words that are no transaction are rejected by name (notes/assumptions/14.md). -/
theorem test_decode_rejects :
    decode cfg [] = .error .truncated ∧ decode cfg [0x00#8] = .error .truncated ∧
    decode cfg [0x02#8, 0x00#8] = .error .trailing ∧ decode cfg [0x09#8] = .error .unknownHeader ∧
    decode cfg [0x01#8, 0x02#8, 0x04#8] = .error .unknownVariant ∧
    decode cfg [0x01#8, 0x02#8, 0x00#8, 0x00#8] = .error .truncated ∧
    decode cfg [0x08#8, 0x00#8, 0x08#8] = .error .keyTooWide ∧
    decode { cfg with tsBits := 12 } [0x04#8, 0x02#8, 0x00#8, 0x10#8] = .error .timestampTooWide ∧
    decode { cfg with tsBits := 12 } [0x04#8, 0x02#8, 0xFF#8, 0x0F#8] = .ok (.bld 0x02#8 4095) := by
  decide

/-- Words as opcode_table.json numbers them. -/
theorem test_decodeTableWord :
    decodeTableWord 8 2 = some .hb ∧ decodeTableWord 8 7 = some .reserved ∧
    decodeTableWord 16 0x27E = some (.startRestart false) ∧ decodeTableWord 16 0x500 = some (.dataStoreEscaped 0#8) ∧
    decodeTableWord 2 3 = some .frameCloseOk ∧ decodeTableWord 11 0x200 = some (.startFirst false 0#8) ∧
    decodeTableWord 16 0x0830 = some (.updGpsSpeed 0#8 0#8 0#32 0) := by
  decide

/-! ## Checksums -/

/-- The table "Checksum function alone" of 95_test_vectors 2.1. -/
theorem test_chk :
    chk .masked [0x98#8, 0x10#8, 0x00#8, 0x08#8, 0x4E#8, 0x61#8, 0xBC#8, 0x80#8] = 0x64#8 ∧
    chk .endAroundCarry [0x98#8, 0x10#8, 0x00#8, 0x08#8, 0x4E#8, 0x61#8, 0xBC#8, 0x80#8] = 0x62#8 ∧
    chk .masked (List.replicate 8 0xFF#8) = 0x07#8 ∧ chk .endAroundCarry (List.replicate 8 0xFF#8) = 0x00#8 ∧
    chk .masked (List.replicate 8 0x80#8) = 0xFF#8 ∧ chk .endAroundCarry (List.replicate 8 0x80#8) = 0xFB#8 := by
  decide

/-- T-E1 (the check value of "123456789") and T-E2. -/
theorem test_crc8 :
    crc8 [0x31#8, 0x32#8, 0x33#8, 0x34#8, 0x35#8, 0x36#8, 0x37#8, 0x38#8, 0x39#8] = 0xBC#8 ∧
    crc8 [0x01#8] = 0xD5#8 ∧ crc8 [0x0B#8] = 0x83#8 ∧ crc8 [0x80#8] = 0xEF#8 ∧ crc8 [0xFF#8] = 0xF9#8 := by
  decide

/-! ## The S.PORT decoder -/

/-- P1 step 1: `IDLE.START` of 0x7E leads to `Start` with index 0 and no escape. -/
theorem test_pb_idleStart :
    goesTo (exec (.pb 0x7E#8) (withDec (decIn .idle false 9#4)))
      { withDec (decIn .start false 0#4) with report := some ⟨.ok, .decoded .none none⟩ } = true := by
  decide

/-- T-D9: `IDLE.DISCARD` of 0x7D sets no escape. -/
theorem test_idleDiscard_escape :
    (after (.idleDiscard false 0x7D#8) (withDec (decIn .idle false 9#4))).dec = decIn .idle false 9#4 := by
  decide

/-- The row `IDLE.START`. -/
theorem test_idleStart :
    (after (.idleStart false) State.reset).dec.dstate = .start := by
  decide

/-- T-D8a and T-D8b: whether the restart keeps a pending escape. -/
theorem test_startRestart_escape :
    (after (.startRestart true) (withDec (decIn .start true 0#4))).dec = decIn .start true 0#4 ∧
    (after (.startRestart true)
      { withDec (decIn .start true 0#4) with cfg := { cfg with restartClearsEsc := true } }).dec
      = decIn .start false 0#4 := by
  decide

/-- T-D12: a second escape in `Start` stores nothing and stays pending. -/
theorem test_startEsc_twice :
    (after (.startEsc true) (withDec (decIn .start true 0#4))).dec = decIn .start true 0#4 := by
  decide

/-- T-D3: an escaped first byte 0x5E is stored as 0x7E. -/
theorem test_startFirst_escaped :
    let d := (after (.startFirst true 0x5E#8) (withDec (decIn .start true 0#4))).dec
    d.dstate = .data ∧ d.esc = false ∧ d.idx = 1#4 ∧ d.buf[0] = 0x7E#8 ∧ d.buf[1] = 0x10#8 := by
  decide

/-- P1 step 6: `DATA.ESC` moves no index. -/
theorem test_dataEsc :
    (after .dataEsc (withDec (dataDec false 4#4 0x00#8))).dec = dataDec true 4#4 0x00#8 := by
  decide

/-- P3 step 4 and W11: a start marker in `Data` is stored. -/
theorem test_dataStorePlain_startMarker :
    let d := (after (.dataStorePlain 0x7E#8) (withDec (dataDec false 2#4 0x00#8))).dec
    d.dstate = .data ∧ d.idx = 3#4 ∧ d.buf[2] = 0x7E#8 ∧ d.buf[3] = 0x08#8 := by
  decide

/-- T-D7 and T-D13: lenient escapes. -/
theorem test_dataStoreEscaped_lenient :
    (after (.dataStoreEscaped 0x41#8) (withDec (dataDec true 2#4 0x00#8))).dec.buf[2] = 0x41#8 ∧
    (after (.dataStoreEscaped 0x7D#8) (withDec (dataDec true 4#4 0x00#8))).dec.buf[4] = 0x7D#8 := by
  decide

/-- T-D1: the ninth byte closes the frame and gives the packet. -/
theorem test_pb_closeOk :
    goesTo (exec (.pb 0x64#8) (withDec (dataDec false 8#4 0x00#8)))
      { withDec { dataDec false 9#4 0x64#8 with dstate := .idle } with report := some ⟨.ok, .decoded .packet (some packetD1)⟩ }
      = true := by
  decide

/-- T-D4: a corrupted check byte. -/
theorem test_pb_closeBad :
    goesTo (exec (.pb 0x65#8) (withDec (dataDec false 8#4 0x00#8)))
      { withDec { dataDec false 9#4 0x65#8 with dstate := .idle } with report := some ⟨.frameIntegrity, .decoded .crcError none⟩ }
      = true := by
  decide

/-- The row `FRAME.CLOSE.OK`, on the buffer of T-D1. -/
theorem test_frameCloseOk :
    answer .frameCloseOk (withDec (dataDec false 9#4 0x64#8)) = some ⟨.ok, .decoded .packet (some packetD1)⟩ := by
  decide

/-- The row `FRAME.CLOSE.BAD`, on the buffer of T-D4. -/
theorem test_frameCloseBad :
    answer .frameCloseBad (withDec (dataDec false 9#4 0x65#8)) = some ⟨.frameIntegrity, .decoded .crcError none⟩ := by
  decide

/-- T-D15: the end-around-carry variant accepts 0x62 for T-D1's bytes and rejects 0x64. -/
theorem test_close_endAround :
    let s := fun b => { withDec (dataDec false 9#4 b) with cfg := { cfg with crcVariant := .endAroundCarry } }
    completes .frameCloseOk (s 0x62#8) = true ∧ completes .frameCloseBad (s 0x64#8) = true ∧
    completes .frameCloseOk (s 0x64#8) = false := by
  decide

/-- 30_encoding R76: `dstate` = 3 faults. -/
theorem test_dstateInvalid :
    faultsWith (exec (.dstateInvalid false 0x01#8) (withDec (decIn .invalid false 0#4))) .unreachableDecoderState = true ∧
    faultsWith (exec (.pb 0x01#8) (withDec (decIn .invalid false 0#4))) .unreachableDecoderState = true := by
  decide

/-- 20_memory R51: no byte at index 9 (notes/assumptions/12.md). -/
theorem test_store_outside :
    refusesWith (exec (.dataStorePlain 0x01#8) (withDec (dataDec false 9#4 0x00#8))) .bufferIndexOutOfRange = true := by
  decide

/-! ## The CRSF encoder -/

/-- T-E7. -/
theorem test_enc_gps :
    frameBytes (.enc 0x02#8 (.gps 0xF8BA6D80#32 375000000#32 185#16 180#16 1123#16 0#8)) State.reset
      = [0xC8#8, 0x11#8, 0x02#8, 0xF8#8, 0xBA#8, 0x6D#8, 0x80#8, 0x16#8, 0x5A#8, 0x0B#8, 0xC0#8, 0x00#8, 0xB9#8, 0x00#8,
         0xB4#8, 0x04#8, 0x63#8, 0x00#8, 0xCE#8] := by
  decide

/-- T-E6. -/
theorem test_encGps :
    frameBytes (.encGps (.gps 0#32 125761299#32 0#16 0#16 0#16 0#8)) State.reset
      = [0xC8#8, 0x11#8, 0x02#8, 0x00#8, 0x00#8, 0x00#8, 0x00#8, 0x07#8, 0x7E#8, 0xF7#8, 0x13#8, 0x00#8, 0x00#8, 0x00#8,
         0x00#8, 0x00#8, 0x00#8, 0x00#8, 0x4E#8] := by
  decide

/-- T-E9 and T-E10. -/
theorem test_encVario :
    frameBytes (.encVario (.vario 0xFFCE#16)) State.reset = [0xC8#8, 0x04#8, 0x07#8, 0xFF#8, 0xCE#8, 0x81#8] ∧
    frameBytes (.encVario (.vario 0x7FFF#16)) State.reset = [0xC8#8, 0x04#8, 0x07#8, 0x7F#8, 0xFF#8, 0x09#8] := by
  decide

/-- T-E11 and T-E13: three capacity bytes drop bits 31:24; four keep them. -/
theorem test_encBattery :
    frameBytes (.encBattery (.battery 0#16 0#16 0xAB123456#32 0#8)) State.reset
      = [0xC8#8, 0x0A#8, 0x08#8, 0x00#8, 0x00#8, 0x00#8, 0x00#8, 0x12#8, 0x34#8, 0x56#8, 0x00#8, 0x24#8] ∧
    frameBytes (.encBattery (.battery 0#16 0#16 0xAB123456#32 0#8)) (withCfg { cfg with battCap := .four })
      = [0xC8#8, 0x0B#8, 0x08#8, 0x00#8, 0x00#8, 0x00#8, 0x00#8, 0xAB#8, 0x12#8, 0x34#8, 0x56#8, 0x00#8, 0xB9#8] := by
  decide

/-- T-E15. -/
theorem test_encBaro :
    frameBytes (.encBaro (.baroAlt 1234#16 250#16)) State.reset
      = [0xC8#8, 0x06#8, 0x09#8, 0x04#8, 0xD2#8, 0x00#8, 0xFA#8, 0x58#8] := by
  decide

/-- T-E3 and T-E4. -/
theorem test_hb :
    frameBytes .hb State.reset = [0xC8#8, 0x03#8, 0x0B#8, 0xC8#8, 0x1E#8] ∧
    frameBytes .hb (withCfg { cfg with fcAddr := 0xEE#8 }) = [0xC8#8, 0x03#8, 0x0B#8, 0xEE#8, 0x3B#8] := by
  decide

/-- T-E16 and T-E17: refused, no bytes, `refused` set, nothing else changed. -/
theorem test_enc_refused :
    goesTo (exec (.enc 0x07#8 (.gps 0#32 0#32 0#16 0#16 0#16 0#8)) State.reset)
      { State.reset with refused := true, report := some ⟨.contractViolation, .nothing⟩ } = true ∧
    (after (.encHeartbeatType (.vario 0#16)) State.reset).refused = true ∧
    (after (.encRefused 0x03#8 (.vario 0#16)) State.reset).refused = true ∧
    (after .reserved State.reset).refused = true := by
  decide

/-! ## The sensor field unpacker -/

/-- T-U3, T-U8: the sign and axis bits, and the first wrapped coordinate. -/
theorem test_updGpsCoord :
    (after (.updGpsCoord 0#8 0#8 0xC0BC614E#32 5) State.reset).snap.gps.longitude.toInt = -125761299 ∧
    (after (.updGpsCoord 0#8 0#8 0x8CC83B7B#32 5) State.reset).snap.gps.longitude.toInt = -2147483647 := by
  decide

/-- T-U11, T-U12. -/
theorem test_updGpsAlt :
    (after (.updGpsAlt 0#8 0#8 1234#32 5) State.reset).snap.gps.altitude = 1123#32 ∧
    (after (.updGpsAlt 0#8 0#8 0xFFFFFFCE#32 5) State.reset).snap.gps.altitude = 429497724#32 := by
  decide

/-- T-U14, T-U15: the product wraps before the division. -/
theorem test_updGpsSpeed :
    (after (.updGpsSpeed 0#8 0#8 5399#32 5) State.reset).snap.gps.groundSpeed = 999#32 ∧
    (after (.updGpsSpeed 0#8 0#8 2319097#32 5) State.reset).snap.gps.groundSpeed = 0#32 := by
  decide

/-- T-U16. -/
theorem test_updGpsHeading :
    (after (.updGpsHeading 0#8 0#8 35999#32 5) State.reset).snap.gps.heading = 359#32 ∧
    (after (.updGpsHeading 0#8 0#8 0xFFFFFFFF#32 5) State.reset).snap.gps.heading = 42949672#32 := by
  decide

/-- T-U17, T-U18. -/
theorem test_updVoltage :
    (after (.updVoltage 0#8 0#8 1260#32 5) State.reset).snap.bat.voltageMv = 126000#32 ∧
    (after (.updVoltage 0#8 0#8 42949673#32 5) State.reset).snap.bat.voltageMv = 4#32 := by
  decide

/-- T-U19. -/
theorem test_updCurrent :
    (after (.updCurrent 0#8 0#8 15#32 5) State.reset).snap.bat.currentMa = 1500#32 ∧
    (after (.updCurrent 0#8 0#8 0xFFFFFFFF#32 5) State.reset).snap.bat.currentMa = 4294967196#32 := by
  decide

/-- T-U20. -/
theorem test_updFuel :
    (after (.updFuel 0#8 0#8 300#32 5) State.reset).snap.bat.fuelPercent = 44#8 ∧
    (after (.updFuel 0#8 0#8 0x1FF#32 5) State.reset).snap.bat.fuelPercent = 255#8 := by
  decide

/-- T-U22, T-U23: division toward zero. -/
theorem test_updBaroAlt :
    (after (.updBaroAlt 0#8 0#8 0xFFFFFFF5#32 5) State.reset).snap.baro.altitudeCm.toInt = -1 ∧
    (after (.updBaroAlt 0#8 0#8 0x80000000#32 5) State.reset).snap.baro.altitudeCm.toInt = -214748364 := by
  decide

/-- T-U25, T-U26. -/
theorem test_updVario :
    (after (.updVario 0#8 0#8 0xFFFF8000#32 5) State.reset).snap.vario.verticalSpeedCms.toInt = -32768 ∧
    (after (.updVario 0#8 0#8 0x00012345#32 5) State.reset).snap.vario.verticalSpeedCms.toInt = 9029 := by
  decide

/-- T-U27. -/
theorem test_updOther :
    (after (.updOther ⟨0#8, 0#8, 0x0500#16, 1#32⟩ 5) State.reset).snap = Snapshot.reset := by
  decide

/-- T-U28: a recognised update moves `last_update` even where the value stays. -/
theorem test_upd_touch :
    let s := upd 0x0820#16 1234#32 70 (upd 0x0820#16 1234#32 50 State.reset)
    s.snap.gps.altitude = 1123#32 ∧ s.snap.gps.valid = true ∧ s.snap.gps.lastUpdate = 70 := by
  decide

/-! ## The outbound packer, `CONV` and `RESET` -/

/-- T-S1: the boundary at 1000 + 500000, and a `now` before the update. -/
theorem test_fresh :
    let snap := (upd 0x0800#16 0#32 1000 State.reset).snap
    fresh cfg snap .gps 1000 = true ∧ fresh cfg snap .gps 500999 = true ∧ fresh cfg snap .gps 501000 = false ∧
    fresh cfg snap .gps 999 = false := by
  decide

/-- T-S2: the GPS payload and the stale answer. -/
theorem test_bldGps :
    let s := upd 0x0800#16 0x80BC614E#32 1000 State.reset
    answer (.bldGps 500999) s = some ⟨.ok, .payload (some (.gps 0#32 125761299#32 0#16 0#16 0#16 0#8))⟩ ∧
    answer (.bldGps 501000) s = some ⟨.staleData, .payload none⟩ := by
  decide

/-- T-S8: 126000 cut to 16 bits. -/
theorem test_bldBattery :
    answer (.bldBattery 5) (upd 0x0210#16 1260#32 5 State.reset)
      = some ⟨.ok, .payload (some (.battery 60464#16 0#16 0#32 0#8))⟩ := by
  decide

/-- T-S9 and T-S11: the barometric payload takes the vario speed, but its own freshness. -/
theorem test_bldBaro :
    let s := upd 0x0110#16 0xFFFFFFCE#32 0 State.reset
    answer (.bldBaro 0) (upd 0x0100#16 0xFFFFFFF6#32 0 s)
      = some ⟨.ok, .payload (some (.baroAlt 0xFFFF#16 0xFFCE#16))⟩ ∧
    answer (.bldBaro 0) s = some ⟨.staleData, .payload none⟩ := by
  decide

/-- T-S11. -/
theorem test_bldVario :
    answer (.bldVario 0) (upd 0x0110#16 0xFFFFFFCE#32 0 State.reset)
      = some ⟨.ok, .payload (some (.vario 0xFFCE#16))⟩ := by
  decide

/-- T-S4 and T-S12. -/
theorem test_bld :
    answer (.bld 0x02#8 0) State.reset = some ⟨.staleData, .payload none⟩ ∧
    (after (.bld 0x0B#8 0) State.reset).refused = true ∧ (after (.bldRefused 0x03#8 0) State.reset).refused = true := by
  decide

/-- T-V1: the frame handed to the sink. -/
theorem test_conv :
    (after (.conv packetD1 1000) State.reset).sink.map (·.bytes)
      = [[0xC8#8, 0x11#8, 0x02#8, 0x00#8, 0x00#8, 0x00#8, 0x00#8, 0x07#8, 0x7E#8, 0xF7#8, 0x13#8, 0x00#8, 0x00#8, 0x00#8,
          0x00#8, 0x00#8, 0x00#8, 0x00#8, 0x4E#8]] := by
  decide

/-- T-V4 and T-V5: nothing transmitted. -/
theorem test_conv_nothing :
    goesTo (exec (.conv ⟨0x98#8, 0x10#8, 0x0500#16, 1#32⟩ 7) State.reset)
      { State.reset with report := some ⟨.ok, .converted none⟩ } = true ∧
    (after (.conv packetD1 1000) (withCfg { cfg with stalenessTimeout := 0 })).sink = [] ∧
    (after (.conv packetD1 1000) (withCfg { cfg with stalenessTimeout := 0 })).snap.gps.lastUpdate = 1000 := by
  decide

/-- T-R1 and T-R2. -/
theorem test_reset :
    let s := { upd 0x0800#16 0x80BC614E#32 1000 State.reset with dec := dataDec true 4#4 0x07#8, refused := true }
    (after .reset s).snap = Snapshot.reset ∧ (after .reset s).refused = true ∧
    (after .reset s).dec = { dataDec false 0#4 0x07#8 with dstate := .idle } := by
  decide

/-! ## One step -/

/-- From reset with nothing presented the block holds its state (notes/assumptions/1.md). -/
theorem test_step_idle : goesTo (step State.reset) State.reset = true := by decide

/-- A presented word runs as the next transaction: `hb` after reset (T-E3). -/
theorem test_step_hb :
    goesTo (step (State.reset.withFetchWord 8 2))
      { State.reset with report := some ⟨.ok, .frame ⟨[0xC8#8, 0x03#8, 0x0B#8, 0xC8#8, 0x1E#8], 5#8⟩⟩ } = true := by
  decide

/-- A case word is presented where its key is formed: `START.RESTART`, key 0x27E (P3 step 15). -/
theorem test_step_startRestart :
    goesTo (step (State.reset.withFetchWord 16 0x27E))
      { withDec { Decoder.reset with dstate := .start } with report := some ⟨.ok, .decoded .none none⟩ } = true := by
  decide

/-- An illegal configuration (00_scope R6) is refused. -/
theorem test_step_illegal :
    refusesWith (step (withCfg { cfg with idFuel := 0x0800#16 })) .illegalConfiguration = true ∧
    refusesWith (step (withCfg { cfg with stalenessTimeout := 2 ^ 32 })) .illegalConfiguration = true ∧
    goesOn (step (withCfg { cfg with stalenessTimeout := 2 ^ 32 - 1 })) = true := by
  decide

/-! ## Witnesses: the hypotheses of the statements can be met -/

/-- A state with words at the port. -/
def withPort (port : List (List Byte)) : State := { State.reset with port := port }

/-- The state of T-S2, the GPS category updated at 1000. -/
def gpsAt1000 : State := upd 0x0800#16 0x80BC614E#32 1000 State.reset

theorem witness_StepRunsTheDecodedInstruction :
    (withPort [[0x02#8], [0x06#8]]).cfg.legal = true ∧ (withPort [[0x02#8], [0x06#8]]).port = [0x02#8] :: [[0x06#8]] ∧
    decode (withPort [[0x02#8], [0x06#8]]).cfg [0x02#8] = .ok .hb ∧
    (withPort [[0x02#8, 0x00#8]]).cfg.legal = true ∧ (withPort [[0x02#8, 0x00#8]]).port = [0x02#8, 0x00#8] :: [] ∧
    decode (withPort [[0x02#8, 0x00#8]]).cfg [0x02#8, 0x00#8] = .error .trailing ∧
    State.reset.cfg.legal = true ∧ State.reset.port = [] := by
  decide

/-- Both sides of the equivalence hold somewhere, and both fail somewhere (`test_step_illegal`): here two equal
identifiers, and the least timeout that does not fit. -/
theorem witness_IllegalConfigurationsAreRefused :
    (withCfg { cfg with idFuel := 0x0800#16 }).cfg.ids[0]? = (withCfg { cfg with idFuel := 0x0800#16 }).cfg.ids[6]? ∧
    2 ^ (withCfg { cfg with stalenessTimeout := 2 ^ 32 }).cfg.tsBits
      ≤ (withCfg { cfg with stalenessTimeout := 2 ^ 32 }).cfg.stalenessTimeout ∧
    cfg.legal = true := by
  decide

/-- Every instruction completes somewhere: the commands and the rows of the encoder, the unpacker and the packer. -/
theorem witness_completes_commands :
    ([.pb 0x7E#8, .enc 0x07#8 (.vario 0#16), .hb, .upd packetD1 5, .bld 0x02#8 5, .conv packetD1 5, .reset, .reserved,
      .encGps (.gps 0#32 0#32 0#16 0#16 0#16 0#8), .encVario (.vario 0#16), .encBattery (.battery 0#16 0#16 0#32 0#8),
      .encBaro (.baroAlt 0#16 0#16), .encHeartbeatType (.vario 0#16), .encRefused 0x03#8 (.vario 0#16),
      .bldGps 5, .bldVario 5, .bldBattery 5, .bldBaro 5, .bldRefused 0x0B#8 5] : List Instr).all
      (fun i => completes i gpsAt1000) = true ∧
    ([.updGpsCoord 0#8 0#8 0#32 5, .updGpsAlt 0#8 0#8 0#32 5, .updGpsSpeed 0#8 0#8 0#32 5, .updGpsHeading 0#8 0#8 0#32 5,
      .updVoltage 0#8 0#8 0#32 5, .updCurrent 0#8 0#8 0#32 5, .updFuel 0#8 0#8 0#32 5, .updBaroAlt 0#8 0#8 0#32 5,
      .updVario 0#8 0#8 0#32 5, .updOther ⟨0#8, 0#8, 0x0500#16, 0#32⟩ 5] : List Instr).all
      (fun i => completes i State.reset) = true := by
  decide

/-- Every instruction completes somewhere: the rows of the decoder. -/
theorem witness_completes_decoder :
    completes (.idleStart false) State.reset = true ∧ completes (.idleDiscard false 0x00#8) State.reset = true ∧
    completes (.startRestart true) (withDec (decIn .start true 0#4)) = true ∧
    completes (.startEsc false) (withDec (decIn .start false 0#4)) = true ∧
    completes (.startFirst false 0x98#8) (withDec (decIn .start false 0#4)) = true ∧
    completes .dataEsc (withDec (dataDec false 8#4 0x00#8)) = true ∧
    completes (.dataStorePlain 0x7E#8) (withDec (dataDec false 8#4 0x00#8)) = true ∧
    completes (.dataStoreEscaped 0x5E#8) (withDec (dataDec true 8#4 0x00#8)) = true ∧
    completes .frameCloseOk (withDec (dataDec false 9#4 0x64#8)) = true ∧
    completes .frameCloseBad (withDec (dataDec false 9#4 0x65#8)) = true := by
  decide

/-- An instruction that completes, for the statements about every `exec i s = next t`. -/
theorem witness_ParametersNeverChange : goesTo (exec .reset State.reset) (after .reset State.reset) = true := by decide

theorem witness_DecodeEncodeRoundTrip :
    cfg.legal = true ∧ Instr.wellFormed cfg (.updOther ⟨0#8, 0#8, 0x0500#16, 0#32⟩ (2 ^ 32 - 1)) = true := by
  decide

theorem witness_AcceptedWordsAreEncodings : decode cfg [0x00#8, 0x7E#8] = .ok (.pb 0x7E#8) := by decide

/-- A key of another state, of another escape bit, and one that differs in both. Of each close: another state, the index
on either side of 9, and the checksum of the other close. -/
theorem witness_UnselectedDecoderRowsStop :
    (0x27E#11 ≠ decoderKey State.reset.dec.dstate.code State.reset.dec.esc ((0x27E#11).setWidth 8)) ∧
    (0x17E#11 ≠ decoderKey State.reset.dec.dstate.code State.reset.dec.esc ((0x17E#11).setWidth 8)) ∧
    (0x701#11 ≠ decoderKey State.reset.dec.dstate.code State.reset.dec.esc ((0x701#11).setWidth 8)) ∧
    (withDec (decIn .start false 9#4)).dec.dstate ≠ .data ∧ (withDec (dataDec false 8#4 0x64#8)).dec.idx ≠ 9#4 ∧
    (withDec (dataDec false 10#4 0x65#8)).dec.idx ≠ 9#4 ∧
    (let s := withDec (dataDec false 9#4 0x65#8)
     chk s.cfg.crcVariant (s.dec.buf.toList.take 8) ≠ s.dec.buf[8]) ∧
    (let s := withDec (dataDec false 9#4 0x64#8)
     chk s.cfg.crcVariant (s.dec.buf.toList.take 8) = s.dec.buf[8]) := by
  decide

/-- The first and the last key of each list. -/
theorem witness_UnselectedLastRowsStop :
    (0x02#8 : Byte) ∈ ([0x02#8, 0x07#8, 0x08#8, 0x09#8, 0x0B#8] : List Byte) ∧
    (0x0B#8 : Byte) ∈ ([0x02#8, 0x07#8, 0x08#8, 0x09#8, 0x0B#8] : List Byte) ∧
    (0x09#8 : Byte) ∈ ([0x02#8, 0x07#8, 0x08#8, 0x09#8] : List Byte) ∧
    packetD1.dataId ∈ [0x0800#16, cfg.idGpsAlt, cfg.idGpsSpeed, cfg.idGpsHeading, cfg.idVoltage, cfg.idCurrent,
      cfg.idFuel, cfg.idBaroAlt, cfg.idVario] ∧
    (0x0110#16 : Half) ∈ [0x0800#16, cfg.idGpsAlt, cfg.idGpsSpeed, cfg.idGpsHeading, cfg.idVoltage, cfg.idCurrent,
      cfg.idFuel, cfg.idBaroAlt, cfg.idVario] := by
  decide

theorem witness_StartMarkerInIdleStartsAFrame : State.reset.dec.dstate = .idle := by decide

theorem witness_OtherBytesInIdleAreDropped : State.reset.dec.dstate = .idle ∧ (0x7D#8 : Byte) ≠ 0x7E#8 := by decide

theorem witness_StartMarkerInStartRestartsTheFrame : (withDec (decIn .start true 0#4)).dec.dstate = .start := by decide

theorem witness_EscapeMarkerInStartSetsThePendingEscape : (withDec (decIn .start false 0#4)).dec.dstate = .start := by
  decide

theorem witness_FirstFrameByteIsDestuffedAndStored :
    (withDec (decIn .start true 0#4)).dec.dstate = .start ∧ (0x5E#8 : Byte) ≠ 0x7E#8 ∧ (0x5E#8 : Byte) ≠ 0x7D#8 := by
  decide

theorem witness_EscapeMarkerInDataIsNotStored :
    (withDec (dataDec false 8#4 0#8)).dec.dstate = .data ∧ (withDec (dataDec false 8#4 0#8)).dec.esc = false := by
  decide

/-- At the last index that only stores and at the one that closes. -/
theorem witness_PlainBytesInDataAreStored :
    (withDec (dataDec false 7#4 0#8)).dec.dstate = .data ∧ (withDec (dataDec false 7#4 0#8)).dec.esc = false ∧
    (0x7E#8 : Byte) ≠ 0x7D#8 ∧ (withDec (dataDec false 7#4 0#8)).dec.idx.toNat ≤ 8 ∧
    (withDec (dataDec false 8#4 0#8)).dec.dstate = .data ∧ (withDec (dataDec false 8#4 0#8)).dec.esc = false ∧
    (withDec (dataDec false 8#4 0#8)).dec.idx.toNat ≤ 8 ∧ (withDec (dataDec false 8#4 0#8)).dec.idx = 8#4 := by
  decide

theorem witness_EscapedBytesInDataAreDestuffedAndStored :
    (withDec (dataDec true 7#4 0#8)).dec.dstate = .data ∧ (withDec (dataDec true 7#4 0#8)).dec.esc = true ∧
    (withDec (dataDec true 7#4 0#8)).dec.idx.toNat ≤ 8 ∧
    (withDec (dataDec true 8#4 0#8)).dec.dstate = .data ∧ (withDec (dataDec true 8#4 0#8)).dec.esc = true ∧
    (withDec (dataDec true 8#4 0#8)).dec.idx.toNat ≤ 8 ∧ (withDec (dataDec true 8#4 0#8)).dec.idx = 8#4 := by
  decide

theorem witness_GoodCloseAssemblesThePacket :
    let s := withDec (dataDec false 9#4 0x64#8)
    s.dec.dstate = .data ∧ s.dec.idx = 9#4 ∧ chk s.cfg.crcVariant (s.dec.buf.toList.take 8) = s.dec.buf[8] := by
  decide

theorem witness_BadCloseDropsTheFrame :
    let s := withDec (dataDec false 9#4 0x65#8)
    s.dec.dstate = .data ∧ s.dec.idx = 9#4 ∧ chk s.cfg.crcVariant (s.dec.buf.toList.take 8) ≠ s.dec.buf[8] := by
  decide

theorem witness_StartMarkerInDataIsData :
    (withDec (dataDec true 8#4 0#8)).dec.dstate = .data ∧ (withDec (dataDec true 8#4 0#8)).dec.idx.toNat ≤ 8 := by
  decide

/-- The clauses on a store at the least and the greatest index they speak of, with and without a pending escape. The
last clause: an instruction that faults. -/
theorem witness_UnreachableDecoderStatesFault :
    (withDec (decIn .invalid true 0#4)).dec.dstate = .invalid ∧
    (withDec (dataDec true 9#4 0#8)).dec.dstate = .data ∧ 9 ≤ (withDec (dataDec true 9#4 0#8)).dec.idx.toNat ∧
    (withDec (dataDec true 9#4 0#8)).dec.esc = true ∧
    (withDec (dataDec false 15#4 0#8)).dec.dstate = .data ∧ 9 ≤ (withDec (dataDec false 15#4 0#8)).dec.idx.toNat ∧
    (withDec (dataDec false 15#4 0#8)).dec.esc = false ∧ (0x00#8 : Byte) ≠ 0x7D#8 ∧
    faultsWith (exec (.pb 0x00#8) (withDec (decIn .invalid true 0#4))) .unreachableDecoderState = true := by
  decide

/-- A storing row and a first byte, where an index is excepted, and a row that stores nothing. -/
theorem witness_DecoderRowsLeaveTheRest :
    familyOf (.dataStorePlain 0x7E#8) = .decoder ∧
    completes (.dataStorePlain 0x7E#8) (withDec (dataDec false 8#4 0x00#8)) = true ∧
    (withDec (dataDec false 8#4 0x00#8)).dec.dstate = .data ∧
    ((0 : Fin 9).val ≠ (withDec (dataDec false 8#4 0x00#8)).dec.idx.toNat) ∧
    familyOf (.startFirst false 0x98#8) = .decoder ∧
    completes (.startFirst false 0x98#8) (withDec (decIn .start false 0#4)) = true ∧ ((8 : Fin 9).val ≠ 0) ∧
    familyOf (.idleStart false) = .decoder ∧ completes (.idleStart false) State.reset = true := by
  decide

/-- A `PB` that answers a packet, and one that answers none. -/
theorem witness_PacketsComeOnlyFromAClose :
    answer (.pb 0x64#8) (withDec (dataDec false 8#4 0x00#8)) = some ⟨.ok, .decoded .packet (some packetD1)⟩ ∧
    answer (.pb 0x64#8) State.reset = some ⟨.ok, .decoded .none none⟩ := by
  decide

/-- In `Data` at the least index of the invariant, with the most bytes the statement speaks of, and in `Idle`. -/
theorem witness_DecoderNeverDeadlocks :
    (withDec (dataDec true 1#4 0#8)).dec.Inv ∧ (withDec (dataDec true 1#4 0#8)).dec.dstate = .data ∧
    (List.replicate 16 (0x7D#8 : Byte)).length = 2 * (9 - (withDec (dataDec true 1#4 0#8)).dec.idx.toNat) ∧
    State.reset.dec.Inv := by
  decide

theorem witness_StuffedFramesDecodeExactly : State.reset.dec.dstate = .idle := by decide

/-- A sum at the bound of the second clause. -/
theorem witness_ChecksumClosedForms : (([0xFE#8, 0x01#8] : List Byte).map BitVec.toNat).sum ≤ 0xFF := by decide

theorem witness_CrcVerifiesAndSeesOneChangedByte : (0x00#8 : Byte) ≠ 0x80#8 := by decide

/-- Each clause: a frame type with no payload, a payload of another type under each supported one, another category. -/
theorem witness_ContractViolationsOnlySetTheMark :
    (0x0B#8 : Byte) ∉ ([0x02#8, 0x07#8, 0x08#8, 0x09#8] : List Byte) ∧ payloadTag (.vario 0#16) ≠ 0x02#8 ∧
    payloadTag (.baroAlt 0#16 0#16) ≠ 0x07#8 ∧ payloadTag (.vario 0#16) ≠ 0x08#8 ∧ payloadTag (.vario 0#16) ≠ 0x09#8 ∧
    (0x03#8 : Byte) ∉ ([0x02#8, 0x07#8, 0x08#8, 0x09#8, 0x0B#8] : List Byte) := by
  decide

/-- Each disjunct: equal parameters, and a run in between. -/
theorem witness_EncoderIsPure :
    gpsAt1000.cfg = State.reset.cfg ∧ runTxns [.reset] State.reset = some (after .reset State.reset, [some ⟨.ok, .nothing⟩])
    := by
  decide

/-- A transaction that answers a frame, one that transmits one, and one that answers none. -/
theorem witness_EveryFrameIsWellFormed :
    completes .hb State.reset = true ∧ completes (.conv packetD1 1000) State.reset = true ∧
    (after (.conv packetD1 1000) State.reset).sink ≠ State.reset.sink ∧ completes .reset State.reset = true := by
  decide

/-- One instruction of each shape: a row, an `UPD`, a `CONV`. -/
theorem witness_RecognisedUpdatesTouchTheirCategory :
    updRowOf cfg (.updFuel 0#8 0#8 0#32 5) = some .fuel ∧ routeRow .fuel = some .battery ∧
    updRowOf cfg (.upd packetD1 5) = some .gpsCoord ∧ updRowOf cfg (.conv packetD1 5) = some .gpsCoord ∧
    routeRow .gpsCoord = some .gps := by
  decide

/-- T-U8: the last coordinate inside the range and the first outside it. -/
theorem witness_CoordinateWrapsFrom214449019 :
    coordinate 0x8CC83B7A#32 = 2147483633 ∧ coordinate 0x8CC83B7B#32 = 2147483649 := by
  decide

theorem witness_updates_legal : State.reset.cfg.legal = true := by decide

theorem witness_UnrecognisedIdentifiersChangeNothing :
    (0x0500#16 : Half) ∉ ([0x0800#16, cfg.idGpsAlt, cfg.idGpsSpeed, cfg.idGpsHeading, cfg.idVoltage, cfg.idCurrent,
      cfg.idFuel, cfg.idBaroAlt, cfg.idVario] : List Half) := by
  decide

/-- An `UPD`, whose sink is framed, and a `CONV`; each category left out by one of them. -/
theorem witness_UpdatesLeaveTheRest :
    updRowOf cfg (.upd packetD1 5) = some .gpsCoord ∧ completes (.upd packetD1 5) State.reset = true ∧
    familyOf (.upd packetD1 5) = .unpacker ∧ routeRow .gpsCoord ≠ some .battery ∧ routeRow .gpsCoord ≠ some .baro ∧
    routeRow .gpsCoord ≠ some .vario ∧ updRowOf cfg (.conv ⟨0#8, 0#8, 0x0600#16, 0#32⟩ 5) = some .fuel ∧
    completes (.conv ⟨0#8, 0#8, 0x0600#16, 0#32⟩ 5) State.reset = true ∧ routeRow .fuel ≠ some .gps := by
  decide

/-- The least timeout the statement speaks of, and the default one. -/
theorem witness_StalenessBoundary :
    let s := { gpsAt1000 with cfg := { cfg with stalenessTimeout := 1 } }
    s.cfg.legal = true ∧ 1 ≤ s.cfg.stalenessTimeout ∧ s.snap.validOf .gps = true ∧
    s.snap.lastUpdateOf .gps < 2 ^ s.cfg.tsBits ∧ gpsAt1000.cfg.legal = true ∧ gpsAt1000.snap.validOf .gps = true := by
  decide

/-- W5: two `BLD` with a refused transaction in between. -/
theorem witness_BuildIsRepeatable :
    (∀ i ∈ [Instr.reserved], familyOf i ≠ .unpacker ∧ familyOf i ≠ .convert ∧ familyOf i ≠ .reset) ∧
    runTxns [.reserved] gpsAt1000 = some (after .reserved gpsAt1000, [some ⟨.contractViolation, .nothing⟩]) ∧
    answer (.bld 0x02#8 1000) gpsAt1000
      = some ⟨.ok, .payload (some (.gps 0#32 125761299#32 0#16 0#16 0#16 0#8))⟩ ∧
    answer (.bld 0x02#8 500999) (after .reserved gpsAt1000)
      = some ⟨.ok, .payload (some (.gps 0#32 125761299#32 0#16 0#16 0#16 0#8))⟩ := by
  decide

/-- A row of each family, and the refusal that sets the mark. -/
theorem witness_EncodeAndBuildLeaveTheBlock :
    familyOf .hb = .encoder ∧ completes .hb State.reset = true ∧
    familyOf (.bldGps 5) = .packer ∧ completes (.bldGps 5) State.reset = true ∧
    familyOf .reserved = .reserved ∧ (after .reserved State.reset).refused = true := by
  decide

/-- Each clause: no route; a route and no payload (timeout 0); a route, a payload and its frame. -/
theorem witness_ConvertIsUpdateBuildEncode :
    let zero := withCfg { cfg with stalenessTimeout := 0 }
    let p := Payload.gps 0#32 125761299#32 0#16 0#16 0#16 0#8
    completes (.upd ⟨0#8, 0#8, 0x0500#16, 1#32⟩ 7) State.reset = true ∧ route cfg 0x0500#16 = none ∧
    completes (.upd packetD1 1000) State.reset = true ∧ route cfg 0x0800#16 = some .gps ∧
    answer (.bld (frameTypeOf .gps) 1000) (after (.upd packetD1 1000) zero) = some ⟨.staleData, .payload none⟩ ∧
    answer (.bld (frameTypeOf .gps) 1000) (after (.upd packetD1 1000) State.reset) = some ⟨.ok, .payload (some p)⟩ ∧
    (frameBytes (.enc (frameTypeOf .gps) p) (after (.upd packetD1 1000) State.reset)).length = 19 := by
  decide

/-- The least timeout of the first clause, and the only one of the second. -/
theorem witness_ConvertTransmitsUnlessTheTimeoutIsZero :
    route cfg 0x0800#16 = some .gps ∧ 1 ≤ (withCfg { cfg with stalenessTimeout := 1 }).cfg.stalenessTimeout ∧
    (withCfg { cfg with stalenessTimeout := 0 }).cfg.stalenessTimeout = 0 := by
  decide

/-- Each clause: a set mark that stays, the reset, a mark that an update sets. -/
theorem witness_ValidIsSetByUpdatesAndClearedOnlyByReset :
    completes .hb gpsAt1000 = true ∧ gpsAt1000.snap.validOf .gps = true ∧ completes .reset gpsAt1000 = true ∧
    completes (.upd packetD1 5) State.reset = true ∧ State.reset.snap.validOf .gps = false ∧
    (after (.upd packetD1 5) State.reset).snap.validOf .gps = true ∧
    updRowOf cfg (.upd packetD1 5) = some .gpsCoord ∧ routeRow .gpsCoord = some .gps := by
  decide

/-- Each clause: a mark that stays through a reset, and a refusal that sets it. -/
theorem witness_RefusedIsNeverCleared :
    completes .reset { State.reset with refused := true } = true ∧ State.reset.refused = false ∧
    (after .reserved State.reset).refused = true ∧
    answer .reserved State.reset = some ⟨.contractViolation, .nothing⟩ := by
  decide

theorem witness_DecoderStateIsPrivate :
    familyOf (.conv packetD1 5) ≠ .decoder ∧ familyOf (.conv packetD1 5) ≠ .reset ∧
    completes (.conv packetD1 5) State.reset = true := by
  decide

theorem witness_DecoderIgnoresTheSnapshot :
    familyOf (.pb 0x64#8) = .decoder ∧ completes (.pb 0x64#8) (withDec (dataDec false 8#4 0x00#8)) = true := by
  decide

/-- A state of the invariant that is not the reset state's: a category updated, a frame transmitted. -/
theorem witness_EveryStepKeepsTheInvariant :
    let s := { after (.conv packetD1 1000) State.reset with port := [[0x02#8]] }
    s.cfg.legal = true ∧ s.dec.Inv ∧ s.snap.gps.valid = true ∧
    (∀ cat ∈ [Category.gps, .vario, .battery, .baro], s.snap.lastUpdateOf cat < 2 ^ s.cfg.tsBits) ∧
    (∀ f ∈ s.sink, f.Ok) ∧ s.sink.length = 1 ∧ goesOn (step s) = true := by
  decide

/-- A state of the invariant with a command at the port: it meets the hypotheses of both statements about a step. -/
theorem witness_CommandsNeverStop :
    let s := withPort [[0x00#8, 0x7E#8]]
    s.Inv ∧ s.port = [0x00#8, 0x7E#8] :: [] ∧ ([0x00#8, 0x7E#8] : List Byte).head? = some 0x00#8 ∧
    (0x00#8 : Byte).toNat < 8 ∧ decode s.cfg [0x00#8, 0x7E#8] = .ok (.pb 0x7E#8) ∧ goesOn (step s) = true := by
  refine ⟨⟨by decide, by decide, ?_, ?_, by decide⟩, by decide⟩
  · exact ⟨fun _ => rfl, fun _ => rfl, fun _ => rfl, fun _ => rfl, rfl, rfl, fun cat => by cases cat <;> decide⟩
  · intro r h; cases h

/-- Both clauses: T-D1's check byte and T-D4's, each with a reading of its own for every byte. -/
theorem witness_HostLoopConvertsOneFrame :
    State.reset.dec.dstate = .idle ∧
    (wireFrame (packetBytes packetD1 ++ [0x64#8])).length = (List.range 9).length + 1 ∧
    (wireFrame (packetBytes packetD1 ++ [0x65#8])).length = (List.range 9).length + 1 ∧ 0x64#8 = chk State.reset.cfg.crcVariant (packetBytes packetD1) ∧
    0x65#8 ≠ chk State.reset.cfg.crcVariant (packetBytes packetD1) := by
  decide

end Sys2Proof.Tests
end

section
/-! SUPPORT. What a completing transaction does to the snapshot (10_state R30, R35), said once for every instruction,
and the validity flags it leaves. -/

namespace Sys2Proof.Machine

/-! ## The snapshot after a transaction -/

theorem DecoderNext.snap_eq {s t : State} (h : DecoderNext s t) : t.snap = s.snap := by
  obtain ⟨d, o, e, p, -, rfl⟩ := h
  rfl

theorem Answered.snap_eq {s t : State} (h : Answered s t) : t.snap = s.snap := by
  cases h <;> rfl

/-- `CONV` leaves the snapshot of its `update`, whatever it answers (43_outbound_pack R218). -/
theorem execConv_next_snap {p : SensorPacket} {now : Timestamp} {s t : State} (h : execConv p now s = .next t) :
    t.snap = update s.cfg p now s.snap := by
  rw [execConv_eq] at h
  rw [← Host.Outcome.next.inj h]
  split
  · rfl
  · split_ifs <;> rfl

theorem eq_conv_of_familyOf {i : Instr} (hf : familyOf i = .convert) : ∃ p now, i = .conv p now := by
  cases i <;> simp_all [familyOf]

theorem eq_reset_of_familyOf {i : Instr} (hf : familyOf i = .reset) : i = .reset := by
  cases i <;> simp_all [familyOf]

/-- Only `UPD`, its rows and `CONV` update under an identifier row (30_encoding R82). -/
theorem familyOf_of_updRowOf {c : Params} {i : Instr} {row : UpdRow} (hrow : updRowOf c i = some row) :
    familyOf i = .unpacker ∨ familyOf i = .convert := by
  cases i <;> simp_all [updRowOf, familyOf]

/-- A transaction that updates under a row leaves the snapshot of that row's case (42_sensor_unpack R170). -/
theorem exec_next_snap_of_updRowOf {i : Instr} {s t : State} {row : UpdRow} (hrow : updRowOf s.cfg i = some row)
    (h : exec i s = .next t) : ∃ raw, t.snap = storeRow raw (nowOf i) s.snap row := by
  obtain hf | hf := familyOf_of_updRowOf hrow
  · obtain ⟨raw, row', hrow', rfl⟩ := exec_unpacker_next hf h
    obtain rfl : row' = row := Option.some.inj (hrow'.symm.trans hrow)
    exact ⟨raw, rfl⟩
  · obtain ⟨p, now, rfl⟩ := eq_conv_of_familyOf hf
    obtain rfl := Option.some.inj hrow
    exact ⟨p.rawValue, execConv_next_snap h⟩

/-- A transaction that updates under no row, other than `RESET`, keeps the snapshot. -/
theorem exec_next_snap_of_updRowOf_none {i : Instr} {s t : State} (hi : i ≠ .reset) (hrow : updRowOf s.cfg i = none)
    (h : exec i s = .next t) : t.snap = s.snap := by
  cases hf : familyOf i with
  | decoder => exact (exec_decoder_next hf h).snap_eq
  | encoder => exact (exec_answered (.inl hf) h).snap_eq
  | packer => exact (exec_answered (.inr (.inl hf)) h).snap_eq
  | reserved => exact (exec_answered (.inr (.inr hf)) h).snap_eq
  | unpacker =>
    obtain ⟨raw, row, hrow', -⟩ := exec_unpacker_next hf h
    cases hrow.symm.trans hrow'
  | convert =>
    obtain ⟨p, now, rfl⟩ := eq_conv_of_familyOf hf
    cases hrow
  | reset => exact absurd (eq_reset_of_familyOf hf) hi

theorem exec_reset_next_snap {s t : State} (h : exec .reset s = .next t) : t.snap = Snapshot.reset := by
  cases h
  rfl

/-! ## Validity flags -/

@[simp] theorem Snapshot.reset_validOf (cat : Category) : Snapshot.reset.validOf cat = false := by
  cases cat <;> rfl

/-- The case of a row sets the flag of the category the row routes to and no other flag
(42_sensor_unpack R171, 43_outbound_pack R210). -/
@[simp] theorem storeRow_validOf (raw : Word) (now : Timestamp) (snap : Snapshot) (row : UpdRow) (cat : Category) :
    (storeRow raw now snap row).validOf cat = if routeRow row = some cat then true else snap.validOf cat := by
  split_ifs with hroute
  · cases row <;> cases hroute <;> rfl
  · -- `validOf` goes first, so that `rfl` compares one flag and not two snapshots.
    cases row <;> cases cat <;> simp only [routeRow, not_true] at hroute <;>
      simp only [Snapshot.validOf, storeRow] <;> rfl

end Sys2Proof.Machine

open Sys2Proof Sys2Proof.Machine

/-- Settles O52: `RESET` clears every flag, an update sets its row's category and keeps the others, and any other
transaction keeps the snapshot. -/
theorem validIsSetByUpdatesAndClearedOnlyByReset : Obligations.ValidIsSetByUpdatesAndClearedOnlyByReset := by
  intro i s t cat h
  by_cases hi : i = .reset
  · subst hi
    simp [exec_reset_next_snap h, updRowOf]
  · cases hrow : updRowOf s.cfg i with
    | none =>
      rw [exec_next_snap_of_updRowOf_none hi hrow h]
      simp [hi]
    | some row =>
      obtain ⟨raw, hsnap⟩ := exec_next_snap_of_updRowOf hrow h
      rw [hsnap]
      by_cases hroute : routeRow row = some cat <;> simp [hi, hroute]

end

section
/-! SUPPORT. A case row of the decoder run where the key selects it (30_encoding R72 to R75), and what a store does
while no escape is pending (40_sport R101). -/

namespace Sys2Proof.Machine

/-! ## The row a decoder's key selects -/

theorem selectSport_key_idle {d : Decoder} (b : Byte) (h : d.dstate = .idle) :
    selectSport (d.key b) = if b = sportSof then .idleStart else .idleDiscard := by
  simp only [Decoder.key, h, DState.code, selectSport_idle]

theorem selectSport_key_start {d : Decoder} (b : Byte) (h : d.dstate = .start) :
    selectSport (d.key b)
      = if b = sportSof then .startRestart else if b = sportEsc then .startEsc else .startFirst := by
  simp only [Decoder.key, h, DState.code, selectSport_start]

theorem selectSport_key_data_plain {d : Decoder} (b : Byte) (h : d.dstate = .data) (hesc : d.esc = false) :
    selectSport (d.key b) = if b = sportEsc then .dataEsc else .dataStorePlain := by
  simp only [Decoder.key, h, hesc, DState.code, selectSport_data_plain]

/-- A case row runs its pseudocode where the key selects it (30_encoding R72). -/
theorem whenSelected_selected {row : SportRow} {esc : Bool} {b : Byte} {s : State} (run : Result)
    (hrow : selectSport (s.dec.key b) = row) (hesc : s.dec.esc = esc) : whenSelected row esc b s run = run :=
  if_pos ⟨hrow, hesc⟩

/-- A full buffer with a checksum mismatch selects the bad close (30_encoding R75). -/
theorem selectClose_closeKey_bad {c : Params} {d : Decoder} (hidx : d.idx = 9#4)
    (hchk : chk c.crcVariant (d.buf.toList.take 8) ≠ d.buf[8]) : selectClose (closeKey c d) = some .bad := by
  rw [selectClose_closeKey_eq, if_pos hidx, if_neg hchk]

/-! ## Stores with no escape pending -/

/-- Without a pending escape the byte stands for itself (40_sport R101). -/
theorem destuff_plain {esc : Bool} (b : Byte) (hesc : esc = false) : destuff esc b = b := by
  subst hesc
  rfl

/-- Without a pending escape a store writes the byte as it came and leaves `esc` at 0 (40_sport R110). -/
theorem storeByte_plain {d : Decoder} (b : Byte) (hesc : d.esc = false) :
    storeByte d b = { d with idx := d.idx + 1#4, buf := d.buf.setIfInBounds d.idx.toNat b } := by
  rw [storeByte, destuff_plain b hesc, ← hesc]
  rfl

end Sys2Proof.Machine

open Sys2Proof Sys2Proof.Machine

/-- Settles O16: `PB` and the row both run `storeData`, whose store writes the byte itself while no escape is
pending. -/
theorem plainBytesInDataAreStored : Obligations.PlainBytesInDataAreStored := by
  intro s b hdata hesc hb hidx u t
  have hstore : storeData b s = .next t := by
    rw [storeData_inRange s b hidx, storeByte_plain b hesc, destuff_plain b hesc]
    rfl
  have hrow : selectSport (s.dec.key b) = .dataStorePlain := (selectSport_key_data_plain b hdata hesc).trans (if_neg hb)
  constructor
  · calc execPb b s
      _ = storeData b s := (execPb_data hdata).trans (if_neg fun h => hb h.2)
      _ = .next t := hstore
  · calc execDataStorePlain b s
      _ = storeData b s := whenSelected_selected _ hrow hesc
      _ = .next t := hstore

/-- Settles O10: the key of a start marker in `Idle` selects `IDLE.START`. -/
theorem startMarkerInIdleStartsAFrame : Obligations.StartMarkerInIdleStartsAFrame := by
  intro s hidle
  have hrow : selectSport (s.dec.key sportSof) = .idleStart := (selectSport_key_idle _ hidle).trans (if_pos rfl)
  exact ⟨(execPb_idle hidle).trans (if_pos rfl), whenSelected_selected _ hrow rfl⟩

/-- Settles O11: the key of any other byte in `Idle` selects `IDLE.DISCARD`. -/
theorem otherBytesInIdleAreDropped : Obligations.OtherBytesInIdleAreDropped := by
  intro s b hidle hb
  have hrow : selectSport (s.dec.key b) = .idleDiscard := (selectSport_key_idle b hidle).trans (if_neg hb)
  exact ⟨(execPb_idle hidle).trans (if_neg hb), whenSelected_selected _ hrow rfl⟩

/-- Settles O13: the key of an escape marker in `Start` selects `START.ESC`, whatever `esc` was. -/
theorem escapeMarkerInStartSetsThePendingEscape : Obligations.EscapeMarkerInStartSetsThePendingEscape := by
  intro s hstart
  have hne : sportEsc ≠ sportSof := by decide
  have hrow : selectSport (s.dec.key sportEsc) = .startEsc := by
    rw [selectSport_key_start _ hstart, if_neg hne, if_pos rfl]
  have hpb : execPb sportEsc s = runStartEsc s := by
    rw [execPb_start hstart, if_neg hne, if_pos rfl]
  exact ⟨hpb, whenSelected_selected _ hrow rfl⟩

/-- Settles O15: the key of an escape marker in `Data` with no escape pending selects `DATA.ESC`. -/
theorem escapeMarkerInDataIsNotStored : Obligations.EscapeMarkerInDataIsNotStored := by
  intro s hdata hesc
  have hrow : selectSport (s.dec.key sportEsc) = .dataEsc :=
    (selectSport_key_data_plain _ hdata hesc).trans (if_pos rfl)
  exact ⟨(execPb_data hdata).trans (if_pos ⟨hesc, rfl⟩), whenSelected_selected _ hrow hesc⟩

/-- Settles O19: a full buffer with a checksum mismatch selects the bad close, whose state is the one stated. -/
theorem badCloseDropsTheFrame : Obligations.BadCloseDropsTheFrame := by
  intro s hdata hidx hchk
  have hrow : selectClose (closeKey s.cfg s.dec) = some .bad := selectClose_closeKey_bad hidx hchk
  exact ⟨rfl, if_pos ⟨hdata, hrow⟩⟩

end

section
/-! SUPPORT. What an `ENC` answers, in closed form, and the payload bytes of its frames (41_crsf R141 to R149); and that
no run of transactions changes the parameters (00_scope R5). -/

namespace Sys2Proof.Machine

/-! ## `ENC` in closed form -/

theorem exists_frameTypeOf_eq_payloadTag (p : Payload) : ∃ cat, frameTypeOf cat = payloadTag p := by
  cases p
  case gps => exact ⟨.gps, rfl⟩
  case vario => exact ⟨.vario, rfl⟩
  case battery => exact ⟨.battery, rfl⟩
  case baroAlt => exact ⟨.baro, rfl⟩

/-- A frame type of no category selects one of the two refused rows (30_encoding R85). -/
theorem execEnc_of_ne_frameTypeOf {ft : Byte} (p : Payload) (s : State) (h : ∀ cat, frameTypeOf cat ≠ ft) :
    execEnc ft p s = .next s.refuse := by
  have hsel : selectCrsf ft = if ft = 0x0B#8 then .heartbeatType else .refused := by
    have hgps : ft ≠ 0x02#8 := (h .gps).symm
    have hvario : ft ≠ 0x07#8 := (h .vario).symm
    have hbattery : ft ≠ 0x08#8 := (h .battery).symm
    have hbaro : ft ≠ 0x09#8 := (h .baro).symm
    rw [selectCrsf_eq, if_neg hgps, if_neg hvario, if_neg hbattery, if_neg hbaro]
  rw [execEnc, hsel]
  split_ifs <;> rfl

/-- `ENC` answers the payload's frame where the frame type is the payload's tag, and is refused elsewhere
(41_crsf R141, R148). -/
theorem execEnc_eq (ft : Byte) (p : Payload) (s : State) :
    execEnc ft p s
      = .next (if payloadTag p = ft then s.answer .ok (.frame (frame ft (payloadBytes s.cfg p))) else s.refuse) := by
  by_cases h : ∃ cat, frameTypeOf cat = ft
  · obtain ⟨cat, rfl⟩ := h
    rw [execEnc_frameTypeOf, encodeAs_eq]
  · have htag : payloadTag p ≠ ft := by
      obtain ⟨cat, hcat⟩ := exists_frameTypeOf_eq_payloadTag p
      exact fun hp => h ⟨cat, hcat.trans hp⟩
    rw [execEnc_of_ne_frameTypeOf p s (not_exists.mp h), if_neg htag]

/-- The report of `ENC`, from its operands and the parameters (41_crsf R149). -/
def encReport (c : Params) (ft : Byte) (p : Payload) : Report :=
  if payloadTag p = ft then ⟨.ok, .frame (frame ft (payloadBytes c p))⟩ else ⟨.contractViolation, .nothing⟩

theorem answered_exec_enc (ft : Byte) (p : Payload) (s : State) :
    answered (exec (.enc ft p) s) = some (encReport s.cfg ft p) := by
  rw [exec, execEnc_eq, encReport]
  split_ifs <;> rfl

theorem answered_exec_hb (s : State) :
    answered (exec .hb s) = some ⟨.ok, .frame (frame 0x0B#8 [s.cfg.fcAddr])⟩ := rfl

/-! ## Frames byte by byte -/

theorem payloadBytes_gps (c : Params) (lat lon : Word) (gs hdg alt : Half) (sat : Byte) :
    payloadBytes c (.gps lat lon gs hdg alt sat) = [
      lat.extractLsb' 24 8, lat.extractLsb' 16 8, lat.extractLsb' 8 8, lat.extractLsb' 0 8,
      lon.extractLsb' 24 8, lon.extractLsb' 16 8, lon.extractLsb' 8 8, lon.extractLsb' 0 8,
      gs.extractLsb' 8 8, gs.extractLsb' 0 8, hdg.extractLsb' 8 8, hdg.extractLsb' 0 8,
      alt.extractLsb' 8 8, alt.extractLsb' 0 8, sat] := by
  rw [payloadBytes, beBytes_four, beBytes_four, beBytes_two, beBytes_two, beBytes_two, beBytes_one]
  rfl

theorem payloadBytes_vario (c : Params) (vs : Half) :
    payloadBytes c (.vario vs) = [vs.extractLsb' 8 8, vs.extractLsb' 0 8] :=
  beBytes_two vs

theorem payloadBytes_baroAlt (c : Params) (alt vs : Half) :
    payloadBytes c (.baroAlt alt vs)
      = [alt.extractLsb' 8 8, alt.extractLsb' 0 8, vs.extractLsb' 8 8, vs.extractLsb' 0 8] := by
  rw [payloadBytes, beBytes_two, beBytes_two]
  rfl

/-- `ENC` of a category's frame type, and so its row, answers the frame of a payload of that type
(41_crsf R143 to R146). -/
theorem encodeAs_of_payloadTag {cat : Category} {p : Payload} {s : State} (htag : payloadTag p = frameTypeOf cat) :
    encodeAs cat p s = .next (s.answer .ok (.frame (frame (frameTypeOf cat) (payloadBytes s.cfg p)))) := by
  rw [encodeAs_eq, if_pos htag]

/-! ## The parameters along a run -/

theorem DecoderNext.cfg_eq {s t : State} (h : DecoderNext s t) : t.cfg = s.cfg := by
  obtain ⟨d, o, e, p, -, rfl⟩ := h
  rfl

theorem Answered.cfg_eq {s t : State} (h : Answered s t) : t.cfg = s.cfg := by
  cases h <;> rfl

theorem execConv_next_cfg {p : SensorPacket} {now : Timestamp} {s t : State} (h : execConv p now s = .next t) :
    t.cfg = s.cfg := by
  rw [execConv_eq] at h
  rw [← Host.Outcome.next.inj h]
  split
  · rfl
  · split_ifs <;> rfl

/-- No transaction changes a parameter (00_scope R5). -/
theorem exec_next_cfg {i : Instr} {s t : State} (h : exec i s = .next t) : t.cfg = s.cfg := by
  cases hf : familyOf i with
  | decoder => exact (exec_decoder_next hf h).cfg_eq
  | encoder => exact (exec_answered (.inl hf) h).cfg_eq
  | packer => exact (exec_answered (.inr (.inl hf)) h).cfg_eq
  | reserved => exact (exec_answered (.inr (.inr hf)) h).cfg_eq
  | unpacker =>
    obtain ⟨raw, row, -, rfl⟩ := exec_unpacker_next hf h
    rfl
  | convert =>
    obtain ⟨p, now, rfl⟩ := eq_conv_of_familyOf hf
    exact execConv_next_cfg h
  | reset =>
    obtain rfl := eq_reset_of_familyOf hf
    cases h
    rfl

/-- A run of one transaction more begins with a transaction that completes, and goes on from its next state. -/
theorem runTxns_cons_eq_some {i : Instr} {is : List Instr} {s t : State} {answers : List (Option Report)}
    (h : runTxns (i :: is) s = some (t, answers)) :
    ∃ s' rest, exec i s = .next s' ∧ runTxns is s' = some (t, rest) := by
  rw [runTxns] at h
  split at h
  · next s' hexec =>
    obtain ⟨⟨t', rest⟩, hrun, heq⟩ := Option.map_eq_some_iff.mp h
    cases heq
    exact ⟨s', rest, hexec, hrun⟩
  · cases h
  · cases h

theorem runTxns_cfg {is : List Instr} {s t : State} {answers : List (Option Report)}
    (h : runTxns is s = some (t, answers)) : t.cfg = s.cfg := by
  induction is generalizing s answers with
  | nil =>
    cases h
    rfl
  | cons i is ih =>
    obtain ⟨s', rest, hexec, hrun⟩ := runTxns_cons_eq_some h
    exact (ih hrun).trans (exec_next_cfg hexec)

end Sys2Proof.Machine

open Sys2Proof Sys2Proof.Machine

/-- Settles O34: the report of `ENC` and that of `HB` are functions of the operands and the parameters, and no run
changes the parameters. -/
theorem encoderIsPure : Obligations.EncoderIsPure := by
  intro ft p s t hreach
  have hcfg : t.cfg = s.cfg := by
    obtain hcfg | ⟨between, answers, hrun⟩ := hreach
    · exact hcfg
    · exact runTxns_cfg hrun
  simp [answered_exec_enc, answered_exec_hb, hcfg]

/-- Settles O28: both run `encodeAs .gps`, whose frame carries the payload bytes of R143. -/
theorem gpsFrameBytes : Obligations.GpsFrameBytes := by
  intro s lat lon gs hdg alt sat body t
  have henc : encodeAs .gps (.gps lat lon gs hdg alt sat) s = .next t := by
    rw [encodeAs_of_payloadTag rfl, payloadBytes_gps]
    rfl
  exact ⟨(execEnc_frameTypeOf .gps _ s).trans henc, henc⟩

/-- Settles O29: both run `encodeAs .vario`, whose frame carries the payload bytes of R144. -/
theorem varioFrameBytes : Obligations.VarioFrameBytes := by
  intro s vs body t
  have henc : encodeAs .vario (.vario vs) s = .next t := by
    rw [encodeAs_of_payloadTag rfl, payloadBytes_vario]
    rfl
  exact ⟨(execEnc_frameTypeOf .vario _ s).trans henc, henc⟩

/-- Settles O31: both run `encodeAs .baro`, whose frame carries the payload bytes of R146. -/
theorem baroFrameBytes : Obligations.BaroFrameBytes := by
  intro s alt vs body t
  have henc : encodeAs .baro (.baroAlt alt vs) s = .next t := by
    rw [encodeAs_of_payloadTag rfl, payloadBytes_baroAlt]
    rfl
  exact ⟨(execEnc_frameTypeOf .baro _ s).trans henc, henc⟩

end

section
/-! SUPPORT. The updates of the sensor field unpacker (42_sensor_unpack): which of them complete, what an `UPD` of a
selected row does, and when a category was last updated. -/

namespace Sys2Proof.Machine

/-! ## The row of an update -/

/-- `UPD` runs the case of the row its `data_id` selects (42_sensor_unpack R170). -/
theorem execUpd_of_selectUpd {p : SensorPacket} {s : State} {row : UpdRow} (now : Timestamp)
    (hsel : selectUpd s.cfg p.dataId = row) : execUpd p now s = updated (storeRow p.rawValue now s.snap row) s := by
  rw [execUpd, update, hsel]

/-- Of the transactions that update under a row, only `UPD.OTHER` can be refused (30_encoding R72). -/
theorem exec_completes_of_updRowOf {i : Instr} {s : State} {row : UpdRow} (hrow : updRowOf s.cfg i = some row)
    (hne : row ≠ .other) : ∃ t, exec i s = .next t := by
  obtain hf | hf := familyOf_of_updRowOf hrow
  · cases i <;> simp only [familyOf, reduceCtorEq] at hf
    case updOther => exact absurd (Option.some.inj hrow).symm hne
    all_goals exact ⟨_, rfl⟩
  · obtain ⟨p, now, rfl⟩ := eq_conv_of_familyOf hf
    exact ⟨_, execConv_eq p now s⟩

theorem ne_other_of_routeRow {row : UpdRow} {cat : Category} (hroute : routeRow row = some cat) : row ≠ .other := by
  rintro rfl
  cases hroute

/-! ## The time of the last update -/

/-- The case of a row moves `last_update` of the category the row routes to and of no other category
(42_sensor_unpack R171, 43_outbound_pack R210). -/
@[simp] theorem storeRow_lastUpdateOf (raw : Word) (now : Timestamp) (snap : Snapshot) (row : UpdRow) (cat : Category) :
    (storeRow raw now snap row).lastUpdateOf cat
      = if routeRow row = some cat then now else snap.lastUpdateOf cat := by
  split_ifs with hroute
  · cases row <;> cases hroute <;> rfl
  · -- `lastUpdateOf` goes first, so that `rfl` compares one timestamp and not two snapshots.
    cases row <;> cases cat <;> simp only [routeRow, not_true] at hroute <;>
      simp only [Snapshot.lastUpdateOf, storeRow] <;> rfl

/-! ## The low byte -/

/-- The fuel value is the low byte of the raw value (42_sensor_unpack R178). -/
theorem fuelPercent_eq (raw : Word) : fuelPercent raw = raw.extractLsb' 0 8 :=
  BitVec.setWidth_eq_extractLsb' (by decide)

end Sys2Proof.Machine

open Sys2Proof Sys2Proof.Machine

/-- Settles O36: the row is not `UPD.OTHER`, so the transaction completes with the snapshot of the row's case, which
refreshes the category the row routes to. -/
theorem recognisedUpdatesTouchTheirCategory : Obligations.RecognisedUpdatesTouchTheirCategory := by
  intro i s row cat hrow hroute
  obtain ⟨t, hexec⟩ := exec_completes_of_updRowOf hrow (ne_other_of_routeRow hroute)
  obtain ⟨raw, hsnap⟩ := exec_next_snap_of_updRowOf hrow hexec
  refine ⟨t, hexec, ?_, ?_⟩
  · rw [hsnap, storeRow_validOf, if_pos hroute]
  · rw [hsnap, storeRow_lastUpdateOf, if_pos hroute]

/-- Settles O41: under a legal configuration the fuel identifier selects `UPD.FUEL`, whose case writes the low byte. -/
theorem fuelUpdate : Obligations.FuelUpdate := by
  intro s sid fid raw now hlegal t
  have hstore : updated (storeFuel raw now s.snap) s = .next t := by
    rw [storeFuel, fuelPercent_eq]
    rfl
  obtain ⟨-, -, -, -, -, -, hfuel, -, -⟩ := selectUpd_ids s.cfg hlegal
  constructor
  · exact hstore
  · calc execUpd ⟨sid, fid, s.cfg.idFuel, raw⟩ now s
      _ = updated (storeRow raw now s.snap .fuel) s := execUpd_of_selectUpd now hfuel
      _ = .next t := hstore

end

section
/-! SUPPORT. The words of the port (30_encoding R70 to R75, R82, R85; layout: log 2). Each parser accepts exactly the
bytes its encoder writes, so `decode` accepts exactly the words of `IsWord`, which are those `encode` writes. -/

namespace Sys2Proof

/-! ## Operands -/

theorem parsePacket_ok_iff {w t : List Byte} {p : SensorPacket} :
    parsePacket w = .ok (p, t) ↔ w = packetBytes p ++ t := by
  constructor
  · intro h
    unfold parsePacket at h
    split at h
    · cases h
      simp [packetBytes]
    · cases h
  · rintro rfl
    simp [packetBytes, half16, word32, parsePacket]

theorem parsePayload_payloadWord (p : Payload) (t : List Byte) : parsePayload (payloadWord p ++ t) = .ok (p, t) := by
  cases p <;> simp [payloadWord, half16, word32, parsePayload]

theorem parsePayload_ok_iff {w t : List Byte} {p : Payload} :
    parsePayload w = .ok (p, t) ↔ w = payloadWord p ++ t := by
  refine ⟨fun h => ?_, fun h => h ▸ parsePayload_payloadWord p t⟩
  unfold parsePayload at h
  split at h
  · cases h
  next v rest =>
    have hv (b : Byte) (hb : v.toNat = b.toNat) : v = b := BitVec.eq_of_toNat_eq hb
    split at h <;> cases h
    next hn => simp [payloadWord, hv 0x00#8 hn]
    next hn => simp [payloadWord, hv 0x01#8 hn]
    next hn => simp [payloadWord, hv 0x02#8 hn]
    next hn => simp [payloadWord, hv 0x03#8 hn]

theorem nowBytes_length (c : Params) (now : Timestamp) : (nowBytes c now).length = c.tsLen :=
  Machine.leBytes_length _ _

/-- A timestamp that fits `TS_BITS` fits its bytes (30_encoding R71). -/
theorem lt_of_fits {c : Params} {now : Timestamp} (h : c.fits now = true) : now < 256 ^ c.tsLen := by
  have hbits : c.tsBits ≤ 8 * c.tsLen := by unfold Params.tsLen; omega
  calc now
    _ < 2 ^ c.tsBits := of_decide_eq_true h
    _ ≤ 2 ^ (8 * c.tsLen) := Nat.pow_le_pow_right (by decide) hbits
    _ = 256 ^ c.tsLen := Nat.pow_mul 2 8 c.tsLen

theorem parseNow_ok_iff {c : Params} {w t : List Byte} {now : Timestamp} :
    parseNow c w = .ok (now, t) ↔ c.fits now = true ∧ w = nowBytes c now ++ t := by
  constructor
  · intro h
    unfold parseNow at h
    split_ifs at h with hlen hfits
    cases h
    have hbytes : nowBytes c (leNat (w.take c.tsLen)) = w.take c.tsLen := by
      have hl : (w.take c.tsLen).length = c.tsLen := by simp; omega
      simpa [nowBytes, hl] using leBytes_leNat (w.take c.tsLen)
    exact ⟨hfits, by rw [hbytes, List.take_append_drop]⟩
  · rintro ⟨hfits, rfl⟩
    have hlen : ¬ (nowBytes c now ++ t).length < c.tsLen := by simp [nowBytes_length]
    have htake : (nowBytes c now ++ t).take c.tsLen = nowBytes c now := List.take_left' (nowBytes_length c now)
    have hval : leNat (nowBytes c now) = now := leNat_leBytes _ _ (lt_of_fits hfits)
    rw [parseNow, if_neg hlen, htake, hval, if_pos hfits, List.drop_left' (nowBytes_length c now)]

/-! ## Operands of a format -/

theorem parseEnc_ok_iff {mk : Byte → Payload → Instr} {w t : List Byte} {i : Instr} :
    parseEnc mk w = .ok (i, t) ↔ ∃ ft p, i = mk ft p ∧ w = ft :: payloadWord p ++ t := by
  constructor
  · intro h
    unfold parseEnc at h
    split at h
    · cases h
    · split at h <;> cases h
      next hp => exact ⟨_, _, rfl, by rw [parsePayload_ok_iff.mp hp, List.cons_append]⟩
  · rintro ⟨ft, p, rfl, rfl⟩
    simp [parseEnc, parsePayload_payloadWord]

theorem parseBld_ok_iff {c : Params} {mk : Byte → Timestamp → Instr} {w t : List Byte} {i : Instr} :
    parseBld c mk w = .ok (i, t) ↔
      ∃ cat now, c.fits now = true ∧ i = mk cat now ∧ w = cat :: nowBytes c now ++ t := by
  constructor
  · intro h
    unfold parseBld at h
    split at h
    · cases h
    · split at h <;> cases h
      next hnow =>
        obtain ⟨hfits, rfl⟩ := parseNow_ok_iff.mp hnow
        exact ⟨_, _, hfits, rfl, rfl⟩
  · rintro ⟨cat, now, hfits, rfl, rfl⟩
    simp [parseBld, parseNow_ok_iff.mpr ⟨hfits, rfl⟩]

theorem parseUpd_ok_iff {c : Params} {mk : SensorPacket → Timestamp → Instr} {w t : List Byte} {i : Instr} :
    parseUpd c mk w = .ok (i, t) ↔
      ∃ p now, c.fits now = true ∧ i = mk p now ∧ w = packetBytes p ++ nowBytes c now ++ t := by
  constructor
  · intro h
    unfold parseUpd at h
    split at h
    · cases h
    next hp =>
      split at h <;> cases h
      next hnow =>
        obtain ⟨hfits, rfl⟩ := parseNow_ok_iff.mp hnow
        exact ⟨_, _, hfits, rfl, by rw [parsePacket_ok_iff.mp hp, List.append_assoc]⟩
  · rintro ⟨p, now, hfits, rfl, rfl⟩
    have hp : parsePacket (packetBytes p ++ (nowBytes c now ++ t)) = .ok (p, nowBytes c now ++ t) :=
      parsePacket_ok_iff.mpr rfl
    simp [parseUpd, hp, parseNow_ok_iff.mpr ⟨hfits, rfl⟩]

/-- The bytes after the header of the case word of a packet: its key first (30_encoding R82). -/
def dataIdWord (c : Params) (p : SensorPacket) (now : Timestamp) : List Byte :=
  dataIdBytes c p.dataId p.sensorId p.frameId p.rawValue now

theorem parseDataId_ok_iff {c : Params} {w t : List Byte} {i : Instr} :
    parseDataId c w = .ok (i, t) ↔
      ∃ p now, c.fits now = true ∧ i = updInstr c p now ∧ w = dataIdWord c p now ++ t := by
  constructor
  · intro h
    unfold parseDataId at h
    split at h
    · obtain ⟨p, now, hfits, rfl, hw⟩ := parseUpd_ok_iff.mp h
      refine ⟨p, now, hfits, rfl, ?_⟩
      simp only [packetBytes, half16, word32, List.cons_append, List.nil_append, List.cons.injEq] at hw
      obtain ⟨rfl, rfl, rfl, rfl, rfl⟩ := hw
      simp [dataIdWord, dataIdBytes, half16, word32]
    · cases h
  · rintro ⟨p, now, hfits, rfl, rfl⟩
    have hparse : parseUpd c (updInstr c) (packetBytes p ++ nowBytes c now ++ t) = .ok (updInstr c p now, t) :=
      parseUpd_ok_iff.mpr ⟨p, now, hfits, rfl, rfl⟩
    simpa [packetBytes, dataIdWord, dataIdBytes, half16, word32, parseDataId] using hparse

/-- The two bytes of an 11-bit key (30_encoding R73). -/
def sportKeyWord (key : BitVec 11) : List Byte := half16 (key.setWidth 16)

theorem parseSportKey_ok_iff {w t : List Byte} {i : Instr} :
    parseSportKey w = .ok (i, t) ↔ ∃ key, i = sportInstr key ∧ w = sportKeyWord key ++ t := by
  constructor
  · intro h
    unfold parseSportKey at h
    split at h
    next k0 k1 rest =>
      split_ifs at h with hk
      cases h
      have hkey : ((le16 k0 k1).setWidth 11).setWidth 16 = le16 k0 k1 := by
        apply BitVec.eq_of_toNat_eq
        simp only [BitVec.toNat_setWidth]
        omega
      exact ⟨_, rfl, by rw [sportKeyWord, hkey, half16_le16]; rfl⟩
    · cases h
  · rintro ⟨key, rfl, rfl⟩
    have hwide : (key.setWidth 16).toNat < 2 ^ 11 := by have := key.isLt; simp only [BitVec.toNat_setWidth]; omega
    have hkey : (key.setWidth 16).setWidth 11 = key := by
      apply BitVec.eq_of_toNat_eq
      have := key.isLt
      simp only [BitVec.toNat_setWidth]
      omega
    simp only [sportKeyWord, half16, List.cons_append, List.nil_append, parseSportKey, le16_half16, if_pos hwide, hkey]

/-- The close rows take the keys 3 and 2 and no other (30_encoding R75). -/
theorem parseSportClose_ok_iff {w t : List Byte} {i : Instr} :
    parseSportClose w = .ok (i, t) ↔
      (i = .frameCloseOk ∧ w = 0x03#8 :: t) ∨ (i = .frameCloseBad ∧ w = 0x02#8 :: t) := by
  constructor
  · intro h
    unfold parseSportClose at h
    split at h
    · cases h
    next k rest =>
      split_ifs at h with hk
      have hsel : ∀ k : Byte, k.toNat < 4 → (selectClose (k.setWidth 2) = some .ok → k = 0x03#8) ∧
          (selectClose (k.setWidth 2) = some .bad → k = 0x02#8) := by decide
      split at h <;> cases h
      next hok => exact .inl ⟨rfl, by rw [(hsel k hk).1 hok]⟩
      next hbad => exact .inr ⟨rfl, by rw [(hsel k hk).2 hbad]⟩
  · rintro (⟨rfl, rfl⟩ | ⟨rfl, rfl⟩) <;> rfl

/-! ## Words -/

/-- The words of the port and the instructions they stand for: one form per command (30_encoding R70), and one per
format of case rows, whose key is free (R74, R75, R82, R85). -/
inductive IsWord (c : Params) : Instr → List Byte → Prop
  | pb (b : Byte) : IsWord c (.pb b) [0x00#8, b]
  | enc (ft : Byte) (p : Payload) : IsWord c (.enc ft p) (0x01#8 :: ft :: payloadWord p)
  | hb : IsWord c .hb [0x02#8]
  | upd (p : SensorPacket) {now : Timestamp} (h : c.fits now = true) :
      IsWord c (.upd p now) (0x03#8 :: (packetBytes p ++ nowBytes c now))
  | bld (cat : Byte) {now : Timestamp} (h : c.fits now = true) :
      IsWord c (.bld cat now) (0x04#8 :: cat :: nowBytes c now)
  | conv (p : SensorPacket) {now : Timestamp} (h : c.fits now = true) :
      IsWord c (.conv p now) (0x05#8 :: (packetBytes p ++ nowBytes c now))
  | reset : IsWord c .reset [0x06#8]
  | reserved : IsWord c .reserved [0x07#8]
  | sportKey (key : BitVec 11) : IsWord c (sportInstr key) (0x08#8 :: sportKeyWord key)
  | closeOk : IsWord c .frameCloseOk [0x10#8, 0x03#8]
  | closeBad : IsWord c .frameCloseBad [0x10#8, 0x02#8]
  | crsfType (ft : Byte) (p : Payload) : IsWord c (crsfInstr ft p) (0x18#8 :: ft :: payloadWord p)
  | bldCategory (cat : Byte) {now : Timestamp} (h : c.fits now = true) :
      IsWord c (bldInstr cat now) (0x20#8 :: cat :: nowBytes c now)
  | dataId (p : SensorPacket) {now : Timestamp} (h : c.fits now = true) :
      IsWord c (updInstr c p now) (0x28#8 :: dataIdWord c p now)

theorem decode_ok_iff_parse {c : Params} {w : List Byte} {i : Instr} :
    decode c w = .ok i ↔ parse c w = .ok (i, []) := by
  unfold decode
  split <;> simp_all

theorem IsWord.parse_eq {c : Params} {w : List Byte} {i : Instr} (h : IsWord c i w) : parse c w = .ok (i, []) := by
  cases h
  case enc ft p => exact parseEnc_ok_iff.mpr ⟨ft, p, rfl, (List.append_nil _).symm⟩
  case upd p now hnow => exact parseUpd_ok_iff.mpr ⟨p, now, hnow, rfl, (List.append_nil _).symm⟩
  case bld cat now hnow => exact parseBld_ok_iff.mpr ⟨cat, now, hnow, rfl, (List.append_nil _).symm⟩
  case conv p now hnow => exact parseUpd_ok_iff.mpr ⟨p, now, hnow, rfl, (List.append_nil _).symm⟩
  case sportKey key => exact parseSportKey_ok_iff.mpr ⟨key, rfl, (List.append_nil _).symm⟩
  case crsfType ft p => exact parseEnc_ok_iff.mpr ⟨ft, p, rfl, (List.append_nil _).symm⟩
  case bldCategory cat now hnow => exact parseBld_ok_iff.mpr ⟨cat, now, hnow, rfl, (List.append_nil _).symm⟩
  case dataId p now hnow => exact parseDataId_ok_iff.mpr ⟨p, now, hnow, rfl, (List.append_nil _).symm⟩
  case pb | hb | reset | reserved | closeOk | closeBad => rfl

theorem isWord_of_parse {c : Params} {w : List Byte} {i : Instr} (h : parse c w = .ok (i, [])) : IsWord c i w := by
  cases w with
  | nil => cases h
  | cons hd t =>
    have header (b : Byte) (hb : hd.toNat = b.toNat) : hd = b := BitVec.eq_of_toNat_eq hb
    simp only [parse] at h
    split at h
    next hn =>
      obtain rfl := header 0x00#8 hn
      split at h <;> cases h
      exact .pb _
    next hn =>
      obtain rfl := header 0x01#8 hn
      obtain ⟨ft, p, rfl, rfl⟩ := parseEnc_ok_iff.mp h
      simpa using IsWord.enc (c := c) ft p
    next hn =>
      obtain rfl := header 0x02#8 hn
      cases h
      exact .hb
    next hn =>
      obtain rfl := header 0x03#8 hn
      obtain ⟨p, now, hnow, rfl, rfl⟩ := parseUpd_ok_iff.mp h
      simpa using IsWord.upd p hnow
    next hn =>
      obtain rfl := header 0x04#8 hn
      obtain ⟨cat, now, hnow, rfl, rfl⟩ := parseBld_ok_iff.mp h
      simpa using IsWord.bld cat hnow
    next hn =>
      obtain rfl := header 0x05#8 hn
      obtain ⟨p, now, hnow, rfl, rfl⟩ := parseUpd_ok_iff.mp h
      simpa using IsWord.conv p hnow
    next hn =>
      obtain rfl := header 0x06#8 hn
      cases h
      exact .reset
    next hn =>
      obtain rfl := header 0x07#8 hn
      cases h
      exact .reserved
    next hn =>
      obtain rfl := header 0x08#8 hn
      obtain ⟨key, rfl, rfl⟩ := parseSportKey_ok_iff.mp h
      simpa using IsWord.sportKey (c := c) key
    next hn =>
      obtain rfl := header 0x10#8 hn
      obtain ⟨rfl, rfl⟩ | ⟨rfl, rfl⟩ := parseSportClose_ok_iff.mp h
      · exact .closeOk
      · exact .closeBad
    next hn =>
      obtain rfl := header 0x18#8 hn
      obtain ⟨ft, p, rfl, rfl⟩ := parseEnc_ok_iff.mp h
      simpa using IsWord.crsfType (c := c) ft p
    next hn =>
      obtain rfl := header 0x20#8 hn
      obtain ⟨cat, now, hnow, rfl, rfl⟩ := parseBld_ok_iff.mp h
      simpa using IsWord.bldCategory cat hnow
    next hn =>
      obtain rfl := header 0x28#8 hn
      obtain ⟨p, now, hnow, rfl, rfl⟩ := parseDataId_ok_iff.mp h
      simpa using IsWord.dataId p hnow
    · cases h

theorem decode_ok_iff {c : Params} {w : List Byte} {i : Instr} : decode c w = .ok i ↔ IsWord c i w :=
  decode_ok_iff_parse.trans ⟨isWord_of_parse, IsWord.parse_eq⟩

/-! ## The encoder writes exactly the words -/

/-- Every 11-bit value is a decoder key (30_encoding R73). -/
theorem exists_decoderKey (key : BitVec 11) : ∃ k e b, key = decoderKey k e b :=
  ⟨key.extractLsb' 9 2, key.getLsbD 8, key.setWidth 8, by revert key; decide⟩

/-- The four codes of `dstate` (10_state R22). -/
theorem dstateCode_cases (k : BitVec 2) : k = 0#2 ∨ k = 1#2 ∨ k = 2#2 ∨ k = 3#2 := by
  revert k
  decide

/-! The case of a decoder key, state by state (30_encoding R74). -/

@[simp] theorem sportInstr_idle (e : Bool) (b : Byte) :
    sportInstr (decoderKey 0#2 e b) = if b = sportSof then .idleStart e else .idleDiscard e b := by
  simp only [sportInstr, selectSport_idle, decoderKey_esc, decoderKey_byte]
  split_ifs <;> rfl

@[simp] theorem sportInstr_start (e : Bool) (b : Byte) :
    sportInstr (decoderKey 1#2 e b)
      = if b = sportSof then .startRestart e else if b = sportEsc then .startEsc e else .startFirst e b := by
  simp only [sportInstr, selectSport_start, decoderKey_esc, decoderKey_byte]
  split_ifs <;> rfl

@[simp] theorem sportInstr_data_plain (b : Byte) :
    sportInstr (decoderKey 2#2 false b) = if b = sportEsc then .dataEsc else .dataStorePlain b := by
  simp only [sportInstr, selectSport_data_plain, decoderKey_byte]
  split_ifs <;> rfl

@[simp] theorem sportInstr_data_escaped (b : Byte) : sportInstr (decoderKey 2#2 true b) = .dataStoreEscaped b := by
  simp only [sportInstr, selectSport_data_escaped, decoderKey_byte]

@[simp] theorem sportInstr_invalid (e : Bool) (b : Byte) :
    sportInstr (decoderKey 3#2 e b) = .dstateInvalid e b := by
  simp only [sportInstr, selectSport_invalid, decoderKey_esc, decoderKey_byte]

/-- The case instruction of an identifier row (30_encoding R82). -/
def updRowInstr (p : SensorPacket) (now : Timestamp) : UpdRow → Instr
  | .gpsCoord => .updGpsCoord p.sensorId p.frameId p.rawValue now
  | .gpsAlt => .updGpsAlt p.sensorId p.frameId p.rawValue now
  | .gpsSpeed => .updGpsSpeed p.sensorId p.frameId p.rawValue now
  | .gpsHeading => .updGpsHeading p.sensorId p.frameId p.rawValue now
  | .voltage => .updVoltage p.sensorId p.frameId p.rawValue now
  | .current => .updCurrent p.sensorId p.frameId p.rawValue now
  | .fuel => .updFuel p.sensorId p.frameId p.rawValue now
  | .baroAlt => .updBaroAlt p.sensorId p.frameId p.rawValue now
  | .vario => .updVario p.sensorId p.frameId p.rawValue now
  | .other => .updOther p now

theorem updInstr_of_selectUpd {c : Params} {p : SensorPacket} {row : UpdRow} (now : Timestamp)
    (h : selectUpd c p.dataId = row) : updInstr c p now = updRowInstr p now row := by
  rw [updInstr, h]
  cases row <;> rfl

/-- The key of each identifier row; of the last one, the packet's own (30_encoding R82). -/
def UpdRow.key (c : Params) (dataId : Half) : UpdRow → Half
  | .gpsCoord => idGpsCoord
  | .gpsAlt => c.idGpsAlt
  | .gpsSpeed => c.idGpsSpeed
  | .gpsHeading => c.idGpsHeading
  | .voltage => c.idVoltage
  | .current => c.idCurrent
  | .fuel => c.idFuel
  | .baroAlt => c.idBaroAlt
  | .vario => c.idVario
  | .other => dataId

/-- The row selected has the key that selects it (30_encoding R72, R82). -/
theorem key_selectUpd (c : Params) (d : Half) : (selectUpd c d).key c d = d := by
  rw [selectUpd_eq]
  split_ifs <;> simp_all [UpdRow.key]

/-- The key of a row, as the encoder writes it, is the key that selected it. -/
theorem encode_sportInstr (c : Params) (key : BitVec 11) :
    encode c (sportInstr key) = 0x08#8 :: sportKeyWord key := by
  obtain ⟨k, e, b, rfl⟩ := exists_decoderKey key
  obtain rfl | rfl | rfl | rfl := dstateCode_cases k
  · rw [sportInstr_idle]
    split_ifs with hsof
    · rw [hsof]
      rfl
    · rfl
  · rw [sportInstr_start]
    split_ifs with hsof hesc
    · rw [hsof]
      rfl
    · rw [hesc]
      rfl
    · rfl
  · cases e
    · rw [sportInstr_data_plain]
      split_ifs with hesc
      · rw [hesc]
        rfl
      · rfl
    · rw [sportInstr_data_escaped]
      rfl
  · rw [sportInstr_invalid]
    rfl

theorem encode_crsfInstr (c : Params) (ft : Byte) (p : Payload) :
    encode c (crsfInstr ft p) = 0x18#8 :: ft :: payloadWord p := by
  rw [crsfInstr, selectCrsf_eq]
  split_ifs <;> simp_all [encode]

theorem encode_bldInstr (c : Params) (cat : Byte) (now : Timestamp) :
    encode c (bldInstr cat now) = 0x20#8 :: cat :: nowBytes c now := by
  rw [bldInstr, selectBld_eq]
  split_ifs <;> simp_all [encode]

theorem encode_updInstr (c : Params) (p : SensorPacket) (now : Timestamp) :
    encode c (updInstr c p now) = 0x28#8 :: dataIdWord c p now := by
  have hkey := key_selectUpd c p.dataId
  rw [updInstr_of_selectUpd now rfl]
  generalize selectUpd c p.dataId = row at *
  rw [dataIdWord, ← hkey]
  cases row <;> rfl

/-- A selected row holds no byte that an earlier row takes (30_encoding R72). -/
theorem wellFormed_sportInstr (c : Params) (key : BitVec 11) : (sportInstr key).wellFormed c = true := by
  obtain ⟨k, e, b, rfl⟩ := exists_decoderKey key
  obtain rfl | rfl | rfl | rfl := dstateCode_cases k
  · rw [sportInstr_idle]
    split_ifs with hsof
    · rfl
    · simpa [Instr.wellFormed] using hsof
  · rw [sportInstr_start]
    split_ifs with hsof hesc
    · rfl
    · rfl
    · simpa [Instr.wellFormed] using ⟨hsof, hesc⟩
  · cases e
    · rw [sportInstr_data_plain]
      split_ifs with hesc
      · rfl
      · simpa [Instr.wellFormed] using hesc
    · rw [sportInstr_data_escaped]
      rfl
  · rw [sportInstr_invalid]
    rfl

theorem wellFormed_crsfInstr (c : Params) (ft : Byte) (p : Payload) : (crsfInstr ft p).wellFormed c = true := by
  rw [crsfInstr, selectCrsf_eq]
  split_ifs <;> simp_all [Instr.wellFormed, payloadTypes]

theorem wellFormed_bldInstr {c : Params} (cat : Byte) {now : Timestamp} (h : c.fits now = true) :
    (bldInstr cat now).wellFormed c = true := by
  rw [bldInstr, selectBld_eq]
  split_ifs <;> simp_all [Instr.wellFormed, payloadTypes]

theorem wellFormed_updInstr {c : Params} (p : SensorPacket) {now : Timestamp} (h : c.fits now = true) :
    (updInstr c p now).wellFormed c = true := by
  rw [updInstr_of_selectUpd now rfl]
  cases hrow : selectUpd c p.dataId
  case other =>
    have hid : p.dataId ∉ c.ids := (selectUpd_other_iff c p.dataId).mp hrow
    simp [updRowInstr, Instr.wellFormed, hid, h]
  all_goals exact h

theorem IsWord.encode_eq {c : Params} {i : Instr} {w : List Byte} (h : IsWord c i w) : encode c i = w := by
  cases h
  case sportKey => exact encode_sportInstr c _
  case crsfType => exact encode_crsfInstr c _ _
  case bldCategory => exact encode_bldInstr c _ _
  case dataId => exact encode_updInstr c _ _
  all_goals rfl

theorem IsWord.wellFormed {c : Params} {i : Instr} {w : List Byte} (h : IsWord c i w) : i.wellFormed c = true := by
  cases h
  case upd _ _ hnow | bld _ _ hnow | conv _ _ hnow => exact hnow
  case sportKey => exact wellFormed_sportInstr c _
  case crsfType => exact wellFormed_crsfInstr c _ _
  case bldCategory _ _ hnow => exact wellFormed_bldInstr _ hnow
  case dataId _ _ hnow => exact wellFormed_updInstr _ hnow
  all_goals rfl

/-- Under a legal configuration the key of an identifier row selects it (30_encoding R82, 00_scope R6). -/
theorem selectUpd_key {c : Params} {row : UpdRow} (hlegal : c.legal = true) (d : Half) (hrow : row ≠ .other) :
    selectUpd c (row.key c d) = row := by
  obtain ⟨hcoord, halt, hspeed, hheading, hvoltage, hcurrent, hfuel, hbaro, hvario⟩ := selectUpd_ids c hlegal
  cases row
  case other => contradiction
  all_goals assumption

theorem exists_isWord_updRowInstr {c : Params} {now : Timestamp} {row : UpdRow} (hlegal : c.legal = true)
    (s f : Byte) (raw : Word) (hrow : row ≠ .other) (hnow : c.fits now = true) :
    ∃ w, IsWord c (updRowInstr ⟨s, f, row.key c 0#16, raw⟩ now row) w := by
  have hsel : selectUpd c (row.key c 0#16) = row := selectUpd_key hlegal 0#16 hrow
  rw [← updInstr_of_selectUpd (c := c) (p := ⟨s, f, row.key c 0#16, raw⟩) now hsel]
  exact ⟨_, .dataId _ hnow⟩

theorem exists_isWord_sportInstr {c : Params} {i : Instr} (k : BitVec 2) (e : Bool) (b : Byte)
    (h : sportInstr (decoderKey k e b) = i) : ∃ w, IsWord c i w :=
  ⟨_, h ▸ IsWord.sportKey _⟩

/-- Each well-formed instruction is one of the forms of the port. -/
theorem exists_isWord {c : Params} {i : Instr} (hlegal : c.legal = true) (hwf : i.wellFormed c = true) :
    ∃ w, IsWord c i w := by
  cases i
  case pb => exact ⟨_, .pb _⟩
  case enc => exact ⟨_, .enc _ _⟩
  case hb => exact ⟨_, .hb⟩
  case upd => exact ⟨_, .upd _ hwf⟩
  case bld => exact ⟨_, .bld _ hwf⟩
  case conv => exact ⟨_, .conv _ hwf⟩
  case reset => exact ⟨_, .reset⟩
  case reserved => exact ⟨_, .reserved⟩
  case idleStart e => exact exists_isWord_sportInstr 0#2 e sportSof (sportInstr_idle ..)
  case idleDiscard e b =>
    have hb : b ≠ sportSof := by simpa [Instr.wellFormed] using hwf
    exact exists_isWord_sportInstr 0#2 e b (by simp [hb])
  case startRestart e => exact exists_isWord_sportInstr 1#2 e sportSof (sportInstr_start ..)
  case startEsc e => exact exists_isWord_sportInstr 1#2 e sportEsc (sportInstr_start ..)
  case startFirst e b =>
    have hb : b ≠ sportSof ∧ b ≠ sportEsc := by simpa [Instr.wellFormed] using hwf
    exact exists_isWord_sportInstr 1#2 e b (by simp [hb])
  case dataEsc => exact exists_isWord_sportInstr 2#2 false sportEsc (sportInstr_data_plain _)
  case dataStorePlain b =>
    have hb : b ≠ sportEsc := by simpa [Instr.wellFormed] using hwf
    exact exists_isWord_sportInstr 2#2 false b (by simp [hb])
  case dataStoreEscaped b => exact exists_isWord_sportInstr 2#2 true b (sportInstr_data_escaped b)
  case dstateInvalid e b => exact exists_isWord_sportInstr 3#2 e b (sportInstr_invalid e b)
  case frameCloseOk => exact ⟨_, .closeOk⟩
  case frameCloseBad => exact ⟨_, .closeBad⟩
  case encGps p => exact ⟨_, IsWord.crsfType 0x02#8 p⟩
  case encVario p => exact ⟨_, IsWord.crsfType 0x07#8 p⟩
  case encBattery p => exact ⟨_, IsWord.crsfType 0x08#8 p⟩
  case encBaro p => exact ⟨_, IsWord.crsfType 0x09#8 p⟩
  case encHeartbeatType p => exact ⟨_, IsWord.crsfType 0x0B#8 p⟩
  case encRefused ft p =>
    have hft : crsfInstr ft p = .encRefused ft p := by
      simp_all [crsfInstr, selectCrsf_eq, Instr.wellFormed, payloadTypes]
    exact ⟨_, hft ▸ IsWord.crsfType ft p⟩
  case bldGps => exact ⟨_, IsWord.bldCategory 0x02#8 hwf⟩
  case bldVario => exact ⟨_, IsWord.bldCategory 0x07#8 hwf⟩
  case bldBattery => exact ⟨_, IsWord.bldCategory 0x08#8 hwf⟩
  case bldBaro => exact ⟨_, IsWord.bldCategory 0x09#8 hwf⟩
  case bldRefused cat now =>
    obtain ⟨hcat, hnow⟩ : cat ∉ payloadTypes ∧ c.fits now = true := by simpa [Instr.wellFormed] using hwf
    have hbld : bldInstr cat now = .bldRefused cat now := by simp_all [bldInstr, selectBld_eq, payloadTypes]
    exact ⟨_, hbld ▸ IsWord.bldCategory cat hnow⟩
  case updGpsCoord s f raw now => exact exists_isWord_updRowInstr (row := .gpsCoord) hlegal s f raw (by decide) hwf
  case updGpsAlt s f raw now => exact exists_isWord_updRowInstr (row := .gpsAlt) hlegal s f raw (by decide) hwf
  case updGpsSpeed s f raw now => exact exists_isWord_updRowInstr (row := .gpsSpeed) hlegal s f raw (by decide) hwf
  case updGpsHeading s f raw now => exact exists_isWord_updRowInstr (row := .gpsHeading) hlegal s f raw (by decide) hwf
  case updVoltage s f raw now => exact exists_isWord_updRowInstr (row := .voltage) hlegal s f raw (by decide) hwf
  case updCurrent s f raw now => exact exists_isWord_updRowInstr (row := .current) hlegal s f raw (by decide) hwf
  case updFuel s f raw now => exact exists_isWord_updRowInstr (row := .fuel) hlegal s f raw (by decide) hwf
  case updBaroAlt s f raw now => exact exists_isWord_updRowInstr (row := .baroAlt) hlegal s f raw (by decide) hwf
  case updVario s f raw now => exact exists_isWord_updRowInstr (row := .vario) hlegal s f raw (by decide) hwf
  case updOther p now =>
    obtain ⟨hid, hnow⟩ : p.dataId ∉ c.ids ∧ c.fits now = true := by simpa [Instr.wellFormed] using hwf
    exact ⟨_, updInstr_of_selectUpd now ((selectUpd_other_iff c p.dataId).mpr hid) ▸ IsWord.dataId p hnow⟩

end Sys2Proof

open Sys2Proof Sys2Proof.Machine

/-- Settles O6: a well-formed instruction is one of the forms of the port, whose word `decode` accepts and `encode`
writes. -/
theorem decodeEncodeRoundTrip : Obligations.DecodeEncodeRoundTrip := by
  intro c i hlegal hwf
  obtain ⟨w, hw⟩ := exists_isWord hlegal hwf
  rw [hw.encode_eq]
  exact decode_ok_iff.mpr hw

/-- Settles O7: `decode` accepts the forms of the port only. -/
theorem acceptedWordsAreEncodings : Obligations.AcceptedWordsAreEncodings := by
  intro c w i h
  have hw : IsWord c i w := decode_ok_iff.mp h
  exact ⟨hw.wellFormed, hw.encode_eq⟩

end

section
/-! SUPPORT. The next state of every instruction that completes, in one inversion lemma, and what follows from it about
the ports, the mark, the report and the sink (00_scope R12, 10_state R38, 60_exceptions R244, R253). -/

namespace Sys2Proof.Machine

/-! ## One inversion lemma for every instruction -/

/-- How a `CONV` ends on its updated state (43_outbound_pack R218). -/
inductive ConvAnswered (s : State) : State → Prop
  | nothing (o : OutcomeCode) (ho : o = .ok ∨ o = .staleData) : ConvAnswered s (s.answer o (.converted none))
  | transmitted (f : OutboundFrame) (hf : f.Ok) : ConvAnswered s ((s.transmit f).answer .ok (.converted (some f)))

theorem execConv_next {p : SensorPacket} {now : Timestamp} {s t : State} (h : execConv p now s = .next t) :
    ConvAnswered (s.setSnap (update s.cfg p now s.snap)) t := by
  rw [execConv_eq] at h
  rw [← Host.Outcome.next.inj h]
  split
  · exact .nothing .ok (.inl rfl)
  · split_ifs
    · exact .transmitted _ (frame_payload_ok _ _ _)
    · exact .nothing .staleData (.inr rfl)

/-- The decoder registers after `RESET` (70_reset R271). -/
def Decoder.cleared (d : Decoder) : Decoder := { d with dstate := .idle, esc := false, idx := 0#4 }

/-- The next state of an instruction that completes. -/
inductive ExecNext (i : Instr) (s : State) : State → Prop
  | decoded {t : State} (hf : familyOf i = .decoder) (h : DecoderNext s t) : ExecNext i s t
  | answered {t : State} (hf : familyOf i = .encoder ∨ familyOf i = .packer ∨ familyOf i = .reserved)
      (h : Answered s t) : ExecNext i s t
  | updated (raw : Word) (row : UpdRow) (hf : familyOf i = .unpacker) (hrow : updRowOf s.cfg i = some row) :
      ExecNext i s ((s.setSnap (storeRow raw (nowOf i) s.snap row)).answer .ok .nothing)
  | converted {t : State} (raw : Word) (row : UpdRow) (hf : familyOf i = .convert) (hrow : updRowOf s.cfg i = some row)
      (h : ConvAnswered (s.setSnap (storeRow raw (nowOf i) s.snap row)) t) : ExecNext i s t
  | reset (hi : i = .reset) :
      ExecNext i s (((s.setDec s.dec.cleared).setSnap Snapshot.reset).answer .ok .nothing)

theorem exec_next {i : Instr} {s t : State} (h : exec i s = .next t) : ExecNext i s t := by
  cases hf : familyOf i with
  | decoder => exact .decoded hf (exec_decoder_next hf h)
  | encoder => exact .answered (.inl hf) (exec_answered (.inl hf) h)
  | packer => exact .answered (.inr (.inl hf)) (exec_answered (.inr (.inl hf)) h)
  | reserved => exact .answered (.inr (.inr hf)) (exec_answered (.inr (.inr hf)) h)
  | unpacker =>
    obtain ⟨raw, row, hrow, rfl⟩ := exec_unpacker_next hf h
    exact .updated raw row hf hrow
  | convert =>
    obtain ⟨p, now, rfl⟩ := eq_conv_of_familyOf hf
    exact .converted p.rawValue _ hf rfl (execConv_next h)
  | reset =>
    obtain rfl := eq_reset_of_familyOf hf
    cases h
    exact .reset rfl

/-! ## What each kind of answer changes -/

theorem DecoderMove.outcome_cases {c : Params} {d d' : Decoder} {o : OutcomeCode} {e : DecodeEvent}
    {p : Option SensorPacket} (h : DecoderMove c d d' o e p) : o = .ok ∨ o = .frameIntegrity := by
  cases h <;> simp

/-- An encoder or packer row, or the reserved selector, changes the mark and the report at most, and the mark only with
the refusal (60_exceptions R244). -/
theorem Answered.block {s t : State} (h : Answered s t) :
    t.dec = s.dec ∧ t.snap = s.snap ∧ t.sink = s.sink ∧
      (t.refused = s.refused ∨ (t.refused = true ∧ t.report = some ⟨.contractViolation, .nothing⟩)) := by
  cases h <;> simp

theorem ConvAnswered.block {s t : State} (h : ConvAnswered s t) : t.block = s.block := by
  cases h <;> rfl

/-- No transaction touches the port (10_state R20). -/
theorem exec_next_port {i : Instr} {s t : State} (h : exec i s = .next t) : t.port = s.port := by
  cases exec_next h with
  | decoded hf h =>
    obtain ⟨d, o, e, p, -, rfl⟩ := h
    rfl
  | answered hf h => cases h <;> rfl
  | updated raw row => rfl
  | converted raw row hf hrow h => cases h <;> rfl
  | reset => rfl

/-- Outside the decoder and `RESET` no transaction writes the decoder registers (10_state R21). -/
theorem exec_next_dec {i : Instr} {s t : State} (hd : familyOf i ≠ .decoder) (hr : familyOf i ≠ .reset)
    (h : exec i s = .next t) : t.dec = s.dec := by
  cases exec_next h with
  | decoded hf => contradiction
  | answered hf h => exact h.block.1
  | updated raw row => rfl
  | converted raw row hf hrow h => cases h <;> rfl
  | reset hi => exact absurd (congrArg familyOf hi) hr

/-- What the output port and the sink show after a transaction (41_crsf R142, R150; 43_outbound_pack R218). -/
def ReportedAndSunk (i : Instr) (s t : State) : Prop :=
  ∃ r : Report, t.report = some r ∧ r.FrameOk ∧ r.outcome ≠ .payloadTooLarge ∧
    (∀ e, r.result ≠ .encodeError e) ∧
    (t.sink = s.sink ∨ ∃ f : OutboundFrame, f.Ok ∧ t.sink = s.sink ++ [f] ∧ familyOf i = .convert ∧
      r.result = .converted (some f))

theorem buildOutcome_ne_payloadTooLarge (p : Option Payload) : buildOutcome p ≠ .payloadTooLarge := by
  cases p <;> simp [buildOutcome]

theorem exec_next_reportedAndSunk {i : Instr} {s t : State} (h : exec i s = .next t) : ReportedAndSunk i s t := by
  cases exec_next h with
  | decoded hf h =>
    obtain ⟨d, o, e, p, hmove, rfl⟩ := h
    refine ⟨_, rfl, trivial, ?_, by simp, .inl rfl⟩
    obtain ho | ho := hmove.outcome_cases <;> simp [ho]
  | answered hf h =>
    cases h with
    | frame f hf => exact ⟨_, rfl, hf, by simp, by simp, .inl rfl⟩
    | payload p => exact ⟨_, rfl, trivial, buildOutcome_ne_payloadTooLarge p, by simp, .inl rfl⟩
    | refused => exact ⟨_, rfl, trivial, by simp, by simp, .inl rfl⟩
  | updated raw row => exact ⟨_, rfl, trivial, by simp, by simp, .inl rfl⟩
  | converted raw row hf hrow h =>
    cases h with
    | nothing o ho =>
      refine ⟨_, rfl, trivial, ?_, by simp, .inl rfl⟩
      obtain ho | ho := ho <;> simp [ho]
    | transmitted f hok => exact ⟨_, rfl, hok, by simp, by simp, .inr ⟨f, hok, rfl, hf, rfl⟩⟩
  | reset => exact ⟨_, rfl, trivial, by simp, by simp, .inl rfl⟩

/-! ## What an update leaves alone -/

section
variable (raw : Word) (now : Timestamp) (snap : Snapshot)

theorem storeRow_gps {row : UpdRow} (h : routeRow row ≠ some .gps) : (storeRow raw now snap row).gps = snap.gps := by
  cases row <;> simp only [routeRow, ne_eq, not_true] at h <;>
    simp only [storeRow, storeVoltage, storeCurrent, storeFuel, storeBaroAlt, storeVario]

theorem storeRow_bat {row : UpdRow} (h : routeRow row ≠ some .battery) :
    (storeRow raw now snap row).bat = snap.bat := by
  cases row <;> simp only [routeRow, ne_eq, not_true] at h <;>
    simp only [storeRow, storeGpsCoord, storeGpsAlt, storeGpsSpeed, storeGpsHeading, storeBaroAlt, storeVario]

theorem storeRow_baro {row : UpdRow} (h : routeRow row ≠ some .baro) :
    (storeRow raw now snap row).baro = snap.baro := by
  cases row <;> simp only [routeRow, ne_eq, not_true] at h <;>
    simp only [storeRow, storeGpsCoord, storeGpsAlt, storeGpsSpeed, storeGpsHeading, storeVoltage, storeCurrent,
      storeFuel, storeVario]

theorem storeRow_vario {row : UpdRow} (h : routeRow row ≠ some .vario) :
    (storeRow raw now snap row).vario = snap.vario := by
  cases row <;> simp only [routeRow, ne_eq, not_true] at h <;>
    simp only [storeRow, storeGpsCoord, storeGpsAlt, storeGpsSpeed, storeGpsHeading, storeVoltage, storeCurrent,
      storeFuel, storeBaroAlt]

/-- No rule writes `satellite_count` (42_sensor_unpack R182). -/
theorem storeRow_satelliteCount (row : UpdRow) :
    (storeRow raw now snap row).gps.satelliteCount = snap.gps.satelliteCount := by
  by_cases h : routeRow row = some .gps
  · cases row <;> simp only [routeRow, reduceCtorEq, Option.some.injEq] at h
    case gpsCoord =>
      simp only [storeRow, storeGpsCoord, touchGps]
      split_ifs <;> rfl
    all_goals simp only [storeRow, storeGpsAlt, storeGpsSpeed, storeGpsHeading, touchGps]
  · rw [storeRow_gps _ _ _ h]

/-- No rule writes `capacity_used_mah` (42_sensor_unpack R182). -/
theorem storeRow_capacityUsedMah (row : UpdRow) :
    (storeRow raw now snap row).bat.capacityUsedMah = snap.bat.capacityUsedMah := by
  by_cases h : routeRow row = some .battery
  · cases row <;> cases h <;> rfl
  · rw [storeRow_bat _ _ _ h]

end

end Sys2Proof.Machine

open Sys2Proof Sys2Proof.Machine

/-- Settles O4. -/
theorem parametersNeverChange : Obligations.ParametersNeverChange :=
  fun _ _ _ h => ⟨exec_next_cfg h, exec_next_port h⟩

/-- Settles O35: of each kind of next state, the report and what the sink gained. -/
theorem everyFrameIsWellFormed : Obligations.EveryFrameIsWellFormed :=
  fun _ _ _ h => exec_next_reportedAndSunk h

/-- Settles O48. -/
theorem encodeAndBuildLeaveTheBlock : Obligations.EncodeAndBuildLeaveTheBlock :=
  fun _ _ _ hf h => (exec_answered hf h).block

/-- Settles O53: only a refusal answers `ContractViolation`, and only a refusal writes the mark. -/
theorem refusedIsNeverCleared : Obligations.RefusedIsNeverCleared := by
  intro i s t h
  cases exec_next h with
  | decoded hf h =>
    obtain ⟨d, o, e, p, -, rfl⟩ := h
    simp +contextual
  | answered hf h =>
    cases h with
    | frame f hf => simp +contextual
    | payload p => simp +contextual
    | refused => simp
  | updated raw row => simp +contextual
  | converted raw row hf hrow h => cases h <;> simp +contextual
  | reset => simp +contextual

/-- Settles O44: an update writes the snapshot as its row's case does, and the block is otherwise as it was. -/
theorem updatesLeaveTheRest : Obligations.UpdatesLeaveTheRest := by
  intro i s t row hrow h
  obtain ⟨raw, hsnap⟩ := exec_next_snap_of_updRowOf hrow h
  rw [hsnap]
  refine ⟨?_, ?_, ?_, storeRow_gps _ _ _, storeRow_bat _ _ _, storeRow_baro _ _ _, storeRow_vario _ _ _,
    storeRow_satelliteCount _ _ _ _, storeRow_capacityUsedMah _ _ _ _⟩
  · obtain hf | hf := familyOf_of_updRowOf hrow <;> exact exec_next_dec (by simp [hf]) (by simp [hf]) h
  · obtain hf | hf := familyOf_of_updRowOf hrow
    · obtain ⟨raw, row, -, rfl⟩ := exec_unpacker_next hf h
      rfl
    · obtain ⟨p, now, rfl⟩ := eq_conv_of_familyOf hf
      exact congrArg (·.2.2) (execConv_next h).block
  · intro hf
    obtain ⟨raw, row, -, rfl⟩ := exec_unpacker_next hf h
    rfl

end

section
/-! SUPPORT. Which instructions stop and why (30_encoding R72, R76; 20_memory R51), one step in its cases
(10_state R20), and the invariant of the machine (10_state R26, R30, R35). -/

namespace Sys2Proof.Machine

/-! ## Stops -/

/-- Why an instruction stops: its row is not selected, a store names no byte, or the decoder state is unreachable. -/
inductive ExecStop (i : Instr) (s : State) : Result → Prop
  | notSelected : ExecStop i s (.refused .caseNotSelected)
  | outOfRange (hd : s.dec.dstate = .data) (hidx : 9 ≤ s.dec.idx.toNat) :
      ExecStop i s (.refused .bufferIndexOutOfRange)
  | fault (hd : s.dec.dstate = .invalid) (hi : (∃ b, i = .pb b) ∨ ∃ e b, i = .dstateInvalid e b) :
      ExecStop i s (.fault .unreachableDecoderState)

theorem storeData_completes {s : State} (b : Byte) (hidx : s.dec.idx.toNat ≤ 8) : ∃ t, storeData b s = .next t :=
  ⟨_, storeData_inRange s b hidx⟩

/-- A `PB` completes but in the unreachable state and where it would store outside the buffer. -/
theorem execPb_cases (b : Byte) (s : State) :
    (∃ t, execPb b s = .next t) ∨
    (s.dec.dstate = .data ∧ 9 ≤ s.dec.idx.toNat ∧ execPb b s = .refused .bufferIndexOutOfRange) ∨
    (s.dec.dstate = .invalid ∧ execPb b s = .fault .unreachableDecoderState) := by
  cases hd : s.dec.dstate
  case idle =>
    rw [execPb_idle hd]
    split_ifs <;> exact .inl ⟨_, rfl⟩
  case start =>
    rw [execPb_start hd]
    split_ifs <;> exact .inl ⟨_, rfl⟩
  case data =>
    rw [execPb_data hd]
    split_ifs
    · exact .inl ⟨_, rfl⟩
    · obtain hidx | hidx : s.dec.idx.toNat ≤ 8 ∨ 9 ≤ s.dec.idx.toNat := by omega
      · exact .inl (storeData_completes b hidx)
      · exact .inr (.inl ⟨rfl, hidx, storeData_outOfRange b hidx⟩)
  case invalid => exact .inr (.inr ⟨rfl, execPb_invalid hd⟩)

theorem selectSport_key_invalid {d : Decoder} (b : Byte) (h : d.dstate = .invalid) :
    selectSport (d.key b) = .dstateInvalid := by
  simp only [Decoder.key, h, DState.code, selectSport_invalid]

/-- A row of `PB` completes, or stops because it is not selected or as the `PB` does (30_encoding R72). -/
theorem whenSelected_completes_or_stops (i : Instr) {row : SportRow} {b : Byte} {s : State} {run : Result} (esc : Bool)
    (hrun : selectSport (s.dec.key b) = row → execPb b s = run)
    (hi : row = .dstateInvalid → ∃ e b, i = .dstateInvalid e b) :
    (∃ t, whenSelected row esc b s run = .next t) ∨ ExecStop i s (whenSelected row esc b s run) := by
  by_cases hsel : selectSport (s.dec.key b) = row ∧ s.dec.esc = esc
  · obtain ⟨hrow, hesc⟩ := hsel
    rw [whenSelected_selected run hrow hesc, ← hrun hrow]
    obtain h | ⟨hd, hidx, h⟩ | ⟨hd, h⟩ := execPb_cases b s
    · exact .inl h
    · exact .inr (h ▸ .outOfRange hd hidx)
    · have hinvalid : row = .dstateInvalid := hrow.symm.trans (selectSport_key_invalid b hd)
      exact .inr (h ▸ .fault hd (.inr (hi hinvalid)))
  · rw [whenSelected, if_neg hsel]
    exact .inr .notSelected

theorem execEnc_completes (ft : Byte) (p : Payload) (s : State) : ∃ t, execEnc ft p s = .next t :=
  ⟨_, execEnc_eq ft p s⟩

theorem encodeAs_completes (cat : Category) (p : Payload) (s : State) : ∃ t, encodeAs cat p s = .next t :=
  ⟨_, encodeAs_eq cat p s⟩

theorem execBld_completes (cat : Byte) (now : Timestamp) (s : State) : ∃ t, execBld cat now s = .next t := by
  unfold execBld
  split <;> exact ⟨_, rfl⟩

/-- Every instruction completes or stops for a reason of `ExecStop`. -/
theorem exec_completes_or_stops (i : Instr) (s : State) : (∃ t, exec i s = .next t) ∨ ExecStop i s (exec i s) := by
  cases i
  case pb b =>
    simp only [exec]
    obtain h | ⟨hd, hidx, h⟩ | ⟨hd, h⟩ := execPb_cases b s
    · exact .inl h
    · exact .inr (h ▸ .outOfRange hd hidx)
    · exact .inr (h ▸ .fault hd (.inl ⟨b, rfl⟩))
  case idleStart | idleDiscard | startRestart | startEsc | startFirst | dataEsc | dataStorePlain | dataStoreEscaped =>
    exact whenSelected_completes_or_stops _ _ (fun h => by rw [execPb, h]) (by simp)
  case dstateInvalid e b =>
    exact whenSelected_completes_or_stops _ _ (fun h => by rw [execPb, h]) fun _ => ⟨e, b, rfl⟩
  case frameCloseOk =>
    simp only [exec, execFrameCloseOk]
    split_ifs
    · exact .inl ⟨_, rfl⟩
    · exact .inr .notSelected
  case frameCloseBad =>
    simp only [exec, execFrameCloseBad]
    split_ifs
    · exact .inl ⟨_, rfl⟩
    · exact .inr .notSelected
  case encRefused =>
    simp only [exec, execEncRefused]
    split_ifs
    · exact .inl ⟨_, rfl⟩
    · exact .inr .notSelected
  case bldRefused =>
    simp only [exec, execBldRefused]
    split_ifs
    · exact .inl ⟨_, rfl⟩
    · exact .inr .notSelected
  case updOther =>
    simp only [exec, execUpdOther]
    split_ifs
    · exact .inl ⟨_, rfl⟩
    · exact .inr .notSelected
  case enc ft p => exact .inl (execEnc_completes ft p s)
  case bld cat now => exact .inl (execBld_completes cat now s)
  case conv p now => exact .inl ⟨_, execConv_eq p now s⟩
  case encGps p | encVario p | encBattery p | encBaro p => exact .inl (encodeAs_completes _ p s)
  all_goals exact .inl ⟨_, rfl⟩

theorem execStop_of_refused {i : Instr} {s : State} {r : Refusal} (h : exec i s = .refused r) :
    ExecStop i s (.refused r) := by
  obtain ⟨t, ht⟩ | hstop := exec_completes_or_stops i s
  · cases ht.symm.trans h
  · exact h ▸ hstop

theorem execStop_of_fault {i : Instr} {s : State} {r : Fault} (h : exec i s = .fault r) : ExecStop i s (.fault r) := by
  obtain ⟨t, ht⟩ | hstop := exec_completes_or_stops i s
  · cases ht.symm.trans h
  · exact h ▸ hstop

/-! ## One step -/

theorem step_illegal {s : State} (hlegal : s.cfg.legal = false) : step s = .refused .illegalConfiguration := by
  simp [step, fetch, hlegal]

theorem step_idle {s : State} (hlegal : s.cfg.legal = true) (hport : s.port = []) : step s = .next s := by
  simp [step, fetch, hlegal, hport]

theorem step_undecodable {s : State} {w : List Byte} {rest : List (List Byte)} {e : DecodeError}
    (hlegal : s.cfg.legal = true) (hport : s.port = w :: rest) (hdecode : decode s.cfg w = .error e) :
    step s = .refused (.undecodable e) := by
  simp [step, fetch, hlegal, hport, hdecode]

theorem step_run {s : State} {w : List Byte} {rest : List (List Byte)} {i : Instr} (hlegal : s.cfg.legal = true)
    (hport : s.port = w :: rest) (hdecode : decode s.cfg w = .ok i) : step s = exec i { s with port := rest } := by
  simp [step, fetch, hlegal, hport, hdecode]

/-- What a step under a legal configuration does: nothing, a refusal of an undecodable word, or one instruction. -/
theorem step_cases {s : State} (hlegal : s.cfg.legal = true) :
    step s = .next s ∨ (∃ e, step s = .refused (.undecodable e)) ∨
    ∃ i rest, i.wellFormed s.cfg = true ∧ step s = exec i { s with port := rest } := by
  cases hport : s.port with
  | nil => exact .inl (step_idle hlegal hport)
  | cons w rest =>
    cases hdecode : decode s.cfg w with
    | error e => exact .inr (.inl ⟨e, step_undecodable hlegal hport hdecode⟩)
    | ok i => exact .inr (.inr ⟨i, rest, (decode_ok_iff.mp hdecode).wellFormed, step_run hlegal hport hdecode⟩)

theorem legal_iff (c : Params) : c.legal = true ↔ c.ids.Nodup ∧ c.stalenessTimeout < 2 ^ c.tsBits := by
  simp [Params.legal]

/-- The nine identifiers are distinct where no two places hold the same one (00_scope R6). -/
theorem ids_nodup_iff (c : Params) : c.ids.Nodup ↔ ¬ ∃ j k : Fin 9, j ≠ k ∧ c.ids[j.val]? = c.ids[k.val]? := by
  have hlen : c.ids.length = 9 := rfl
  rw [List.nodup_iff_getElem?_ne_getElem?]
  constructor
  · rintro h ⟨j, k, hjk, heq⟩
    obtain hlt | hlt : j.val < k.val ∨ k.val < j.val := by omega
    · exact h _ _ hlt (by rw [hlen]; exact k.isLt) heq
    · exact h _ _ hlt (by rw [hlen]; exact j.isLt) heq.symm
  · intro h j k hlt hk heq
    exact h ⟨⟨j, by omega⟩, ⟨k, by omega⟩, by simp; omega, heq⟩

/-! ## The invariant -/

/-- Under its invariant the decoder stores inside the buffer (20_memory R51). -/
theorem Decoder.Inv.idx_le {d : Decoder} (hinv : d.Inv) (hd : d.dstate = .data) : d.idx.toNat ≤ 8 := by
  obtain ⟨-, -, hdata, -⟩ := hinv
  exact BitVec.le_def.mp (hdata hd).2

/-- Every move of the decoder keeps its invariant (10_state R26). -/
theorem DecoderMove.inv {c : Params} {d d' : Decoder} {o : OutcomeCode} {e : DecodeEvent} {p : Option SensorPacket}
    (h : DecoderMove c d d' o e p) (hinv : d.Inv) : d'.Inv := by
  obtain ⟨hvalid, hstart, hdata, hidle⟩ := hinv
  cases h with
  | idleStart h => simp [Decoder.Inv]
  | idleDiscard h => exact ⟨hvalid, hstart, hdata, hidle⟩
  | startRestart h => simp [Decoder.Inv, h]
  | escape h =>
    obtain h | ⟨h, -⟩ := h
    · simpa [Decoder.Inv, h] using hstart h
    · simpa [Decoder.Inv, h] using hdata h
  | startFirst v h => simp [Decoder.Inv]
  | store v h hi =>
    have hnext : 1#4 ≤ d.idx + 1#4 ∧ d.idx + 1#4 ≤ 8#4 := by
      revert hi
      generalize d.idx = i
      revert i
      decide
    simpa [Decoder.Inv, h] using hnext
  | storeClose v h hi hc => simp [Decoder.Inv]
  | storeDrop v h hi hc => simp [Decoder.Inv]
  | closeOk h hi hc => exact absurd (hdata h).2 (by rw [hi]; decide)
  | closeBad h hi hc => exact absurd (hdata h).2 (by rw [hi]; decide)

/-- The reset values meet the snapshot's invariant under every configuration. -/
theorem Snapshot.reset_inv (c : Params) : Snapshot.reset.Inv c := by
  refine ⟨fun _ => rfl, fun _ => rfl, fun _ => rfl, fun _ => rfl, rfl, rfl, fun cat => ?_⟩
  have hzero : Snapshot.reset.lastUpdateOf cat = 0 := by cases cat <;> rfl
  rw [hzero]
  exact Nat.two_pow_pos _

/-- An update at a time that fits keeps the snapshot's invariant: the category it writes becomes valid. -/
theorem storeRow_inv {c : Params} {snap : Snapshot} {now : Timestamp} (raw : Word) (row : UpdRow) (hinv : snap.Inv c)
    (hnow : c.fits now = true) : (storeRow raw now snap row).Inv c := by
  obtain ⟨hgps, hbat, hbaro, hvario, hsat, hcap, hlast⟩ := hinv
  have hroute {cat : Category} (h : (storeRow raw now snap row).validOf cat = false) : routeRow row ≠ some cat := by
    intro hroute
    rw [storeRow_validOf, if_pos hroute] at h
    cases h
  refine ⟨fun h => ?_, fun h => ?_, fun h => ?_, fun h => ?_, ?_, ?_, fun cat => ?_⟩
  · have heq := storeRow_gps raw now snap (hroute (cat := .gps) h)
    rw [heq] at h ⊢
    exact hgps h
  · have heq := storeRow_bat raw now snap (hroute (cat := .battery) h)
    rw [heq] at h ⊢
    exact hbat h
  · have heq := storeRow_baro raw now snap (hroute (cat := .baro) h)
    rw [heq] at h ⊢
    exact hbaro h
  · have heq := storeRow_vario raw now snap (hroute (cat := .vario) h)
    rw [heq] at h ⊢
    exact hvario h
  · rw [storeRow_satelliteCount, hsat]
  · rw [storeRow_capacityUsedMah, hcap]
  · rw [storeRow_lastUpdateOf]
    split_ifs
    · exact of_decide_eq_true hnow
    · exact hlast cat

/-- The timestamp of a well-formed update fits `TS_BITS` (30_encoding R71). -/
theorem fits_nowOf {c : Params} {i : Instr} {row : UpdRow} (hrow : updRowOf c i = some row)
    (hwf : i.wellFormed c = true) : c.fits (nowOf i) = true := by
  cases i <;> simp_all [updRowOf, Instr.wellFormed, nowOf]

theorem exec_next_dec_inv {i : Instr} {s t : State} (hinv : s.dec.Inv) (h : exec i s = .next t) : t.dec.Inv := by
  by_cases hd : familyOf i = .decoder
  · obtain ⟨d, o, e, p, hmove, rfl⟩ := exec_decoder_next hd h
    exact hmove.inv hinv
  by_cases hr : familyOf i = .reset
  · obtain rfl := eq_reset_of_familyOf hr
    cases h
    simp [Decoder.Inv]
  · rwa [exec_next_dec hd hr h]

theorem exec_next_snap_inv {i : Instr} {s t : State} (hinv : s.snap.Inv s.cfg) (hwf : i.wellFormed s.cfg = true)
    (h : exec i s = .next t) : t.snap.Inv s.cfg := by
  cases hrow : updRowOf s.cfg i with
  | some row =>
    obtain ⟨raw, hsnap⟩ := exec_next_snap_of_updRowOf hrow h
    rw [hsnap]
    exact storeRow_inv raw row hinv (fits_nowOf hrow hwf)
  | none =>
    by_cases hi : i = .reset
    · subst hi
      rw [exec_reset_next_snap h]
      exact Snapshot.reset_inv _
    · rwa [exec_next_snap_of_updRowOf_none hi hrow h]

/-- A well-formed instruction keeps the invariant. -/
theorem exec_next_inv {i : Instr} {s t : State} (hinv : s.Inv) (hwf : i.wellFormed s.cfg = true)
    (h : exec i s = .next t) : t.Inv := by
  have hcfg : t.cfg = s.cfg := exec_next_cfg h
  obtain ⟨r, hreport, hframe, -, -, hsink⟩ := exec_next_reportedAndSunk h
  refine ⟨hcfg ▸ hinv.legal, exec_next_dec_inv hinv.dec h, hcfg ▸ exec_next_snap_inv hinv.snap hwf h, ?_, ?_⟩
  · intro r' hr'
    obtain rfl : r = r' := Option.some.inj (hreport.symm.trans hr')
    exact hframe
  · obtain hsink | ⟨f, hok, hsink, -⟩ := hsink
    · exact hsink ▸ hinv.sink
    · intro f' hf'
      rw [hsink, List.mem_append, List.mem_singleton] at hf'
      obtain hf' | rfl := hf'
      · exact hinv.sink f' hf'
      · exact hok

/-- The port is no part of the invariant. -/
theorem State.Inv.setPort {s : State} (hinv : s.Inv) (rest : List (List Byte)) : State.Inv { s with port := rest } :=
  ⟨hinv.legal, hinv.dec, hinv.snap, hinv.report, hinv.sink⟩

/-- Under its invariant the decoder accepts every byte (40_sport R119). -/
theorem execPb_completes {s : State} (b : Byte) (hinv : s.dec.Inv) : ∃ t, execPb b s = .next t := by
  obtain h | ⟨hd, hidx, -⟩ | ⟨hd, -⟩ := execPb_cases b s
  · exact h
  · have hle := hinv.idx_le hd
    omega
  · exact absurd hd hinv.1

/-- Under the decoder's invariant an instruction stops only where its row is not selected. -/
theorem ExecStop.eq_notSelected {i : Instr} {s : State} {r : Result} (h : ExecStop i s r) (hinv : s.dec.Inv) :
    r = .refused .caseNotSelected := by
  cases h with
  | notSelected => rfl
  | outOfRange hd hidx =>
    have hle := hinv.idx_le hd
    omega
  | fault hd => exact absurd hd hinv.1

/-- Under the invariant a step stops only at a row that is not selected or at a word of no transaction. -/
theorem step_stop_cases {s : State} {r : Result} (hinv : s.Inv) (h : step s = r) (hnext : ∀ t, r ≠ .next t) :
    r = .refused .caseNotSelected ∨ ∃ e, r = .refused (.undecodable e) := by
  obtain hs | ⟨e, hs⟩ | ⟨i, rest, -, hs⟩ := step_cases hinv.legal
  · exact absurd (h.symm.trans hs) (hnext s)
  · exact .inr ⟨e, h.symm.trans hs⟩
  · obtain ⟨t, ht⟩ | hexec := exec_completes_or_stops i { s with port := rest }
    · exact absurd (h.symm.trans (hs.trans ht)) (hnext t)
    · exact .inl (h.symm.trans (hs.trans (hexec.eq_notSelected hinv.dec)))

/-- A word whose header is a command's stands for a transaction that completes under the decoder's invariant. -/
theorem exec_command_completes {c : Params} {i : Instr} {w : List Byte} {op : Byte} {s : State} (h : IsWord c i w)
    (hop : w.head? = some op) (hlt : op.toNat < 8) (hinv : s.dec.Inv) : ∃ t, exec i s = .next t := by
  cases h <;> obtain rfl := Option.some.inj hop
  case pb b => exact execPb_completes b hinv
  case enc ft p => exact execEnc_completes ft p s
  case bld cat now _ => exact execBld_completes cat now s
  case conv p now _ => exact ⟨_, execConv_eq p now s⟩
  case hb | upd | reset | reserved => exact ⟨_, rfl⟩
  case sportKey | closeOk | closeBad | crsfType | bldCategory | dataId => exact absurd hlt (by decide)

end Sys2Proof.Machine

open Sys2Proof Sys2Proof.Machine

/-- Settles O57: a step that goes on keeps the state or runs one well-formed instruction, and each of these keeps the
invariant. -/
theorem everyStepKeepsTheInvariant : Obligations.EveryStepKeepsTheInvariant := by
  intro s t hinv hstep
  obtain h | ⟨e, h⟩ | ⟨i, rest, hwf, h⟩ := step_cases hinv.legal
  · cases h.symm.trans hstep
    exact hinv
  · cases h.symm.trans hstep
  · exact exec_next_inv (hinv.setPort rest) hwf (h.symm.trans hstep)

/-- Settles O56. -/
theorem resetMeetsTheInvariant : Obligations.ResetMeetsTheInvariant where
  legal := by decide
  dec := by decide
  snap := Snapshot.reset_inv _
  report := fun _ h => nomatch h
  sink := fun _ h => nomatch h

/-- Settles O58: under the invariant an instruction stops only where its row is not selected, which no command does. -/
theorem commandsNeverStop : Obligations.CommandsNeverStop := by
  intro s hinv
  refine ⟨fun r h => ?_, fun h => ?_, fun w rest op i hport hop hlt hdecode => ?_⟩
  · obtain h | ⟨e, h⟩ := step_stop_cases hinv h (by simp) <;> cases h
  · obtain h | ⟨e, h⟩ := step_stop_cases hinv h (by simp) <;> cases h
  · obtain ⟨t, ht⟩ :=
      exec_command_completes (s := { s with port := rest }) (decode_ok_iff.mp hdecode) hop hlt hinv.dec
    exact ⟨t, (step_run hinv.legal hport hdecode).trans ht⟩

/-- Settles O2. -/
theorem stepRunsTheDecodedInstruction : Obligations.StepRunsTheDecodedInstruction :=
  ⟨fun _ _ _ _ hlegal hport hdecode => step_run hlegal hport hdecode,
   fun _ _ _ _ hlegal hport hdecode => step_undecodable hlegal hport hdecode,
   fun _ hlegal hport => step_idle hlegal hport⟩

/-- Settles O3: no step under a legal configuration answers this refusal, and every step under another one does. -/
theorem illegalConfigurationsAreRefused : Obligations.IllegalConfigurationsAreRefused := by
  intro s
  have hlegal : s.cfg.legal = true ↔
      ¬ ((∃ j k : Fin 9, j ≠ k ∧ s.cfg.ids[j.val]? = s.cfg.ids[k.val]?) ∨
        2 ^ s.cfg.tsBits ≤ s.cfg.stalenessTimeout) := by
    rw [legal_iff, ids_nodup_iff, not_or, Nat.not_le]
  rw [← not_iff_not, ← hlegal]
  constructor
  · intro h
    by_contra hfalse
    exact h (step_illegal (Bool.not_eq_true _ ▸ hfalse))
  · intro h hstep
    obtain hs | ⟨e, hs⟩ | ⟨i, rest, -, hs⟩ := step_cases h
    · cases hs.symm.trans hstep
    · cases hs.symm.trans hstep
    · cases execStop_of_refused (hs.symm.trans hstep)

end

section
/-! SUPPORT. The decoder's rows against the `PB` that selects them (30_encoding R72 to R76), stores with an escape
pending (40_sport R111), and the bounded way from `Data` to a close (40_sport R119). -/

namespace Sys2Proof.Machine

/-! ## Selected and unselected rows -/

theorem selectSport_key_data_escaped {d : Decoder} (b : Byte) (h : d.dstate = .data) (hesc : d.esc = true) :
    selectSport (d.key b) = .dataStoreEscaped := by
  simp only [Decoder.key, h, hesc, DState.code, selectSport_data_escaped]

/-- A selected row does what the `PB` does, completing or not (30_encoding R72). -/
theorem whenSelected_eq_execPb_of_key {row : SportRow} {esc : Bool} {b : Byte} {s : State} {run : Result}
    (hrow : selectSport (s.dec.key b) = row) (hesc : s.dec.esc = esc)
    (hrun : selectSport (s.dec.key b) = row → execPb b s = run) : whenSelected row esc b s run = execPb b s :=
  (whenSelected_selected run hrow hesc).trans (hrun hrow).symm

theorem whenSelected_unselected {row : SportRow} {esc : Bool} {b : Byte} {s : State} {run : Result}
    (h : selectSport (s.dec.key b) = row → s.dec.esc ≠ esc) :
    whenSelected row esc b s run = .refused .caseNotSelected :=
  if_neg fun ⟨hrow, hesc⟩ => h hrow hesc

/-- The row of the key formed is the `PB` that forms it. -/
theorem exec_sportInstr_key (s : State) (b : Byte) :
    exec (sportInstr (decoderKey s.dec.dstate.code s.dec.esc b)) s = execPb b s := by
  cases hd : s.dec.dstate
  case idle =>
    have hrow := selectSport_key_idle b hd
    rw [DState.code, sportInstr_idle]
    split_ifs with hb
    · subst hb
      exact whenSelected_eq_execPb_of_key (hrow.trans (if_pos rfl)) rfl fun h => by rw [execPb, h]
    · exact whenSelected_eq_execPb_of_key (hrow.trans (if_neg hb)) rfl fun h => by rw [execPb, h]
  case start =>
    have hrow := selectSport_key_start b hd
    rw [DState.code, sportInstr_start]
    split_ifs with hb hb'
    · subst hb
      exact whenSelected_eq_execPb_of_key (hrow.trans (if_pos rfl)) rfl fun h => by rw [execPb, h]
    · subst hb'
      exact whenSelected_eq_execPb_of_key (hrow.trans (by rw [if_neg hb, if_pos rfl])) rfl fun h => by rw [execPb, h]
    · exact whenSelected_eq_execPb_of_key (hrow.trans (by rw [if_neg hb, if_neg hb'])) rfl fun h => by rw [execPb, h]
  case data =>
    cases hesc : s.dec.esc
    · have hrow := selectSport_key_data_plain b hd hesc
      rw [DState.code, sportInstr_data_plain]
      split_ifs with hb
      · subst hb
        exact whenSelected_eq_execPb_of_key (hrow.trans (if_pos rfl)) hesc fun h => by rw [execPb, h]
      · exact whenSelected_eq_execPb_of_key (hrow.trans (if_neg hb)) hesc fun h => by rw [execPb, h]
    · rw [DState.code, sportInstr_data_escaped]
      exact whenSelected_eq_execPb_of_key (selectSport_key_data_escaped b hd hesc) hesc fun h => by rw [execPb, h]
  case invalid =>
    rw [DState.code, sportInstr_invalid]
    exact whenSelected_eq_execPb_of_key (selectSport_key_invalid b hd) rfl fun h => by rw [execPb, h]

/-- The decoder state in which a row stands (30_encoding R74). -/
def rowState : SportRow → BitVec 2
  | .idleStart | .idleDiscard => 0#2
  | .startRestart | .startEsc | .startFirst => 1#2
  | .dataEsc | .dataStorePlain | .dataStoreEscaped => 2#2
  | .dstateInvalid => 3#2

@[simp] theorem rowState_selectSport (k : BitVec 2) (e : Bool) (b : Byte) :
    rowState (selectSport (decoderKey k e b)) = k := by
  revert k e b
  decide

/-- The row of a key tests for its own place in the table and for the key's escape bit. -/
theorem exec_sportInstr_eq_whenSelected (k : BitVec 2) (e : Bool) (b : Byte) (s : State) :
    ∃ row b' run, rowState row = k ∧ exec (sportInstr (decoderKey k e b)) s = whenSelected row e b' s run := by
  obtain rfl | rfl | rfl | rfl := dstateCode_cases k
  · rw [sportInstr_idle]
    split_ifs
    · exact ⟨.idleStart, _, _, rfl, rfl⟩
    · exact ⟨.idleDiscard, _, _, rfl, rfl⟩
  · rw [sportInstr_start]
    split_ifs
    · exact ⟨.startRestart, _, _, rfl, rfl⟩
    · exact ⟨.startEsc, _, _, rfl, rfl⟩
    · exact ⟨.startFirst, _, _, rfl, rfl⟩
  · cases e
    · rw [sportInstr_data_plain]
      split_ifs
      · exact ⟨.dataEsc, _, _, rfl, rfl⟩
      · exact ⟨.dataStorePlain, _, _, rfl, rfl⟩
    · rw [sportInstr_data_escaped]
      exact ⟨.dataStoreEscaped, _, _, rfl, rfl⟩
  · rw [sportInstr_invalid]
    exact ⟨.dstateInvalid, _, _, rfl, rfl⟩

/-- A key of another decoder state or another escape bit selects no row that runs. -/
theorem exec_sportInstr_unselected {s : State} {k : BitVec 2} {e : Bool} (b : Byte)
    (h : k = s.dec.dstate.code → e ≠ s.dec.esc) :
    exec (sportInstr (decoderKey k e b)) s = .refused .caseNotSelected := by
  obtain ⟨row, b', run, hstate, hexec⟩ := exec_sportInstr_eq_whenSelected k e b s
  rw [hexec]
  refine whenSelected_unselected fun hrow => (h ?_).symm
  rw [← hstate, ← hrow, Decoder.key, rowState_selectSport]

/-! ## Stores with an escape pending -/

/-- With a pending escape a store writes the de-stuffed byte and uses the escape up (40_sport R111). -/
theorem storeByte_escaped {d : Decoder} (b : Byte) (hesc : d.esc = true) :
    storeByte d b = { d with
      esc := false, idx := d.idx + 1#4, buf := d.buf.setIfInBounds d.idx.toNat (destuff true b) } := by
  rw [storeByte, hesc]
  rfl

/-- A start marker is no escape code, so it is stored as it came, escape pending or not (40_sport R115). -/
theorem destuff_sportSof (esc : Bool) : destuff esc sportSof = sportSof := by
  cases esc <;> decide

/-- The decoder after a store inside the buffer: `Idle` where it was the ninth byte (40_sport R110 to R113). -/
theorem storeData_inRange_dec {s : State} (b : Byte) (hidx : s.dec.idx.toNat ≤ 8) :
    ∃ t, storeData b s = .next t ∧
      t.dec = { storeByte s.dec b with dstate := if s.dec.idx = 8#4 then .idle else s.dec.dstate } := by
  refine ⟨_, storeData_inRange s b hidx, ?_⟩
  split_ifs <;> rfl

/-! ## The way to a close -/

/-- How many more bytes a decoder in `Data` takes at most: two per frame byte missing, one of them taken where an escape
is pending (40_sport R119). -/
def bytesToClose (d : Decoder) : Nat := 2 * (9 - d.idx.toNat) - d.esc.toNat

/-- A byte in `Data` closes the frame, or leaves `Data` one byte nearer to the close at least. -/
theorem execPb_data_progress {s : State} (b : Byte) (hinv : s.dec.Inv) (hd : s.dec.dstate = .data) :
    ∃ t, execPb b s = .next t ∧ t.dec.Inv ∧
      (t.dec.dstate = .idle ∨ (t.dec.dstate = .data ∧ bytesToClose t.dec < bytesToClose s.dec)) := by
  obtain ⟨t, ht⟩ := execPb_completes b hinv
  refine ⟨t, ht, exec_next_dec_inv (i := .pb b) hinv ht, ?_⟩
  have hidx := hinv.idx_le hd
  rw [execPb_data hd] at ht
  split_ifs at ht with hb
  · cases ht
    refine .inr ⟨hd, ?_⟩
    simp [bytesToClose, hb.1]
    omega
  · obtain ⟨t', ht', hdec⟩ := storeData_inRange_dec b hidx
    cases ht.symm.trans ht'
    rw [hdec]
    by_cases h8 : s.dec.idx = 8#4
    · exact .inl (if_pos h8)
    · refine .inr ⟨(if_neg h8).trans hd, ?_⟩
      have hnext : (s.dec.idx + 1#4).toNat = s.dec.idx.toNat + 1 := by
        rw [BitVec.toNat_add]
        simp
        omega
      have hlt : s.dec.idx.toNat ≠ 8 := fun h => h8 (BitVec.eq_of_toNat_eq h)
      have hesc : s.dec.esc.toNat ≤ 1 := Bool.toNat_le _
      simp [bytesToClose, storeByte, hnext]
      omega

theorem runTxns_cons {i : Instr} {is : List Instr} {s t u : State} {answers : List (Option Report)}
    (h : exec i s = .next t) (hrun : runTxns is t = some (u, answers)) :
    runTxns (i :: is) s = some (u, t.report :: answers) := by
  rw [runTxns, h]
  simp only [hrun, Option.map_some]

/-- From `Data`, enough bytes have a beginning that reaches `Idle` (40_sport R119). -/
theorem exists_take_reaches_idle (bytes : List Byte) {s : State} (hinv : s.dec.Inv) (hd : s.dec.dstate = .data)
    (hlen : bytesToClose s.dec ≤ bytes.length) :
    ∃ k ≤ bytes.length, ∃ t answers,
      runTxns (pbs (bytes.take k)) s = some (t, answers) ∧ t.dec.dstate = .idle := by
  induction bytes generalizing s with
  | nil =>
    have hidx := hinv.idx_le hd
    have hesc : s.dec.esc.toNat ≤ 1 := Bool.toNat_le _
    simp only [bytesToClose, List.length_nil] at hlen
    omega
  | cons b bytes ih =>
    obtain ⟨t, ht, htinv, hidle | ⟨hdata, hless⟩⟩ := execPb_data_progress b hinv hd
    · exact ⟨1, by simp, t, [t.report], runTxns_cons (i := .pb b) ht rfl, hidle⟩
    · rw [List.length_cons] at hlen
      obtain ⟨k, hk, u, answers, hrun, hu⟩ := ih htinv hdata (by omega)
      exact ⟨k + 1, by simpa using hk, u, t.report :: answers, runTxns_cons (i := .pb b) ht hrun, hu⟩

/-! ## Packets -/

/-- An event comes of a `PB` only where it stores the ninth byte (40_sport R114). -/
theorem execPb_next_event {b : Byte} {s t : State} {o : OutcomeCode} {e : DecodeEvent} {p : Option SensorPacket}
    (h : execPb b s = .next t) (hreport : t.report = some ⟨o, .decoded e p⟩) (he : e ≠ .none) :
    s.dec.dstate = .data ∧ s.dec.idx = 8#4 := by
  obtain ⟨d, o', e', p', hmove, rfl⟩ := execPb_next h
  cases hreport
  have hfull (hd : s.dec.dstate = .data) (h9 : s.dec.idx = 9#4) : False := by
    rw [execPb_data hd] at h
    split_ifs at h
    · cases congrArg State.report (Host.Outcome.next.inj h)
      contradiction
    · have hlt := (storeData_next h).1
      rw [h9] at hlt
      exact absurd hlt (by decide)
  cases hmove with
  | storeClose v hd hi => exact ⟨hd, hi⟩
  | storeDrop v hd hi => exact ⟨hd, hi⟩
  | closeOk hd hi => exact (hfull hd hi).elim
  | closeBad hd hi => exact (hfull hd hi).elim
  | idleStart | idleDiscard | startRestart | escape | startFirst | store => contradiction

/-- A move answers a packet exactly with the event `PACKET` (40_sport R112). -/
theorem DecoderMove.isSome_iff {c : Params} {d d' : Decoder} {o : OutcomeCode} {e : DecodeEvent}
    {p : Option SensorPacket} (h : DecoderMove c d d' o e p) : p.isSome ↔ e = .packet := by
  cases h <;> simp

/-- A move stores at index 0 in `Start` and at `idx` in `Data`, and nowhere else (20_memory R56). -/
theorem DecoderMove.buf_eq {c : Params} {d d' : Decoder} {o : OutcomeCode} {e : DecodeEvent}
    {p : Option SensorPacket} (h : DecoderMove c d d' o e p) (j : Fin 9) (hstart : d.dstate = .start → j.val ≠ 0)
    (hdata : d.dstate = .data → j.val ≠ d.idx.toNat) : d'.buf[j] = d.buf[j] := by
  cases h with
  | startFirst v h => exact Vector.getElem_set_ne (by decide) _ (hstart h).symm
  | store v h hi => exact Vector.getElem_setIfInBounds_ne _ (hdata h).symm
  | storeClose v h hi hc | storeDrop v h hi hc =>
    have hj : j.val ≠ 8 := by simpa [hi] using hdata h
    exact Vector.getElem_set_ne (by decide) _ hj.symm
  | idleStart | idleDiscard | startRestart | escape | closeOk | closeBad => rfl

end Sys2Proof.Machine

open Sys2Proof Sys2Proof.Machine

/-- Settles O8: of the decoder's rows by the key formed; the rows of the other formats run what the command's dispatch
runs. -/
theorem caseRowsRunAsTheirTransaction : Obligations.CaseRowsRunAsTheirTransaction := by
  intro s
  refine ⟨exec_sportInstr_key s, fun ft p => ?_, fun cat now => ?_, fun p now => ?_⟩
  · cases hsel : selectCrsf ft <;> simp [crsfInstr, exec, execEnc, hsel, execEncRefused] <;> rfl
  · cases hsel : selectBld cat <;> simp [bldInstr, exec, execBld, hsel, execBldRefused] <;> rfl
  · cases hsel : selectUpd s.cfg p.dataId <;>
      simp [updInstr, exec, execUpd, update, hsel, execUpdOther, storeRow] <;> rfl

/-- Settles O9: a row runs only under its own state, escape bit and byte, and a close only on a full buffer in
`Data`. -/
theorem unselectedDecoderRowsStop : Obligations.UnselectedDecoderRowsStop := by
  refine ⟨fun s key hkey => ?_, fun s e => ⟨?_, ?_, ?_, ?_⟩, fun s h => ?_, fun s h => ?_⟩
  · obtain ⟨k, e, b, rfl⟩ := exists_decoderKey key
    rw [decoderKey_byte] at hkey
    refine exec_sportInstr_unselected b fun hk he => hkey ?_
    rw [hk, he]
  · have hne : ∀ k e, selectSport (decoderKey k e 0x7E#8) ≠ .idleDiscard := by decide
    exact whenSelected_unselected fun h => absurd h (hne _ _)
  · have hne : ∀ k e, selectSport (decoderKey k e 0x7E#8) ≠ .startFirst := by decide
    exact whenSelected_unselected fun h => absurd h (hne _ _)
  · have hne : ∀ k e, selectSport (decoderKey k e 0x7D#8) ≠ .startFirst := by decide
    exact whenSelected_unselected fun h => absurd h (hne _ _)
  · have hne : ∀ k e, selectSport (decoderKey k e 0x7D#8) ≠ .dataStorePlain := by decide
    exact whenSelected_unselected fun h => absurd h (hne _ _)
  · refine if_neg fun ⟨hd, hsel⟩ => ?_
    obtain ⟨h9, hm⟩ := selectClose_closeKey hsel
    simp_all [checksumMatches]
  · refine if_neg fun ⟨hd, hsel⟩ => ?_
    obtain ⟨h9, hm⟩ := selectClose_closeKey hsel
    simp_all [checksumMatches]

/-- Settles O12: the key of a start marker in `Start` selects `START.RESTART`. -/
theorem startMarkerInStartRestartsTheFrame : Obligations.StartMarkerInStartRestartsTheFrame := by
  intro s hstart t
  have hrun : runStartRestart s = .next t := by
    have hesc : (s.dec.esc && !s.cfg.restartClearsEsc) = if s.cfg.restartClearsEsc then false else s.dec.esc := by
      cases s.dec.esc <;> cases s.cfg.restartClearsEsc <;> rfl
    rw [runStartRestart, hesc]
    rfl
  have hrow : selectSport (s.dec.key sportSof) = .startRestart := (selectSport_key_start _ hstart).trans (if_pos rfl)
  exact ⟨((execPb_start hstart).trans (if_pos rfl)).trans hrun, (whenSelected_selected _ hrow rfl).trans hrun⟩

/-- Settles O14: the key of any other byte in `Start` selects `START.FIRST`. -/
theorem firstFrameByteIsDestuffedAndStored : Obligations.FirstFrameByteIsDestuffedAndStored := by
  intro s b hstart hsof hesc v t
  have hsof : b ≠ sportSof := hsof
  have hesc : b ≠ sportEsc := hesc
  have hrow : selectSport (s.dec.key b) = .startFirst := by
    rw [selectSport_key_start b hstart, if_neg hsof, if_neg hesc]
  have hpb : execPb b s = runStartFirst b s := by
    rw [execPb_start hstart, if_neg hsof, if_neg hesc]
  exact ⟨hpb, whenSelected_selected _ hrow rfl⟩

/-- Settles O17: with an escape pending both run `storeData`, whose store writes the de-stuffed byte. -/
theorem escapedBytesInDataAreDestuffedAndStored : Obligations.EscapedBytesInDataAreDestuffedAndStored := by
  intro s b hdata hesc hidx v u t
  have hstore : storeData b s = .next t := by
    rw [storeData_inRange s b hidx, storeByte_escaped b hesc, hesc]
    rfl
  constructor
  · calc execPb b s
      _ = storeData b s := (execPb_data hdata).trans (if_neg fun h => by simp [hesc] at h)
      _ = .next t := hstore
  · calc execDataStoreEscaped b s
      _ = storeData b s := whenSelected_selected _ (selectSport_key_data_escaped b hdata hesc) hesc
      _ = .next t := hstore

/-- Settles O18: a full buffer with a matching checksum selects the good close. -/
theorem goodCloseAssemblesThePacket : Obligations.GoodCloseAssemblesThePacket := by
  intro s hdata hidx hchk p t
  have hclose : closeOk s = t := by
    have hpacket : assemblePacket s.dec.buf = p := by rw [assemblePacket, le16_or, le32_or]
    rw [closeOk, hpacket]
    rfl
  have hsel : selectClose (closeKey s.cfg s.dec) = some .ok := by
    rw [selectClose_closeKey_eq, if_pos hidx, if_pos hchk]
  exact ⟨hclose, hclose ▸ if_pos ⟨hdata, hsel⟩⟩

/-- Settles O20: a start marker in `Data` is no escape marker, so it is stored, and de-stuffing leaves it alone. -/
theorem startMarkerInDataIsData : Obligations.StartMarkerInDataIsData := by
  intro s hdata hidx
  have hpb : execPb sportSof s = storeData sportSof s :=
    (execPb_data hdata).trans (if_neg fun h => absurd h.2 (by decide))
  obtain ⟨t, ht, hdec⟩ := storeData_inRange_dec sportSof hidx
  refine ⟨t, hpb.trans ht, ?_, ?_, ?_, ?_⟩
  · have hlt : s.dec.idx.toNat < 9 := by omega
    simp [hdec, storeByte, destuff_sportSof, hlt]
    rfl
  · rw [hdec]
    rfl
  · rw [hdec]
    rfl
  · rw [hdec, hdata]

/-- Settles O21: what stops a `PB`, and that nothing else faults. -/
theorem unreachableDecoderStatesFault : Obligations.UnreachableDecoderStatesFault := by
  refine ⟨fun s b hd => ⟨execPb_invalid hd, ?_⟩, fun s b hd hidx hesc hb => ⟨?_, ?_⟩,
    fun s b hd hidx hesc => ⟨?_, ?_⟩, fun i s r h => ?_⟩
  · exact whenSelected_selected _ (selectSport_key_invalid b hd) rfl
  · exact (execPb_data hd).trans ((if_neg fun h => hb h.2).trans (storeData_outOfRange b hidx))
  · have hrow : selectSport (s.dec.key b) = .dataStorePlain :=
      (selectSport_key_data_plain b hd hesc).trans (if_neg hb)
    exact (whenSelected_selected _ hrow hesc).trans (storeData_outOfRange b hidx)
  · exact (execPb_data hd).trans ((if_neg fun h => by simp [hesc] at h).trans (storeData_outOfRange b hidx))
  · exact (whenSelected_selected _ (selectSport_key_data_escaped b hd hesc) hesc).trans (storeData_outOfRange b hidx)
  · cases execStop_of_fault h with
    | fault hd hi => exact ⟨rfl, hd, hi⟩

/-- Settles O22. -/
theorem decoderRowsLeaveTheRest : Obligations.DecoderRowsLeaveTheRest := by
  intro i s t hf h
  obtain ⟨d, o, e, p, hmove, rfl⟩ := exec_decoder_next hf h
  exact ⟨rfl, rfl, rfl, hmove.buf_eq⟩

/-- Settles O23: the moves that answer an event store the ninth byte, or are closes, which no `PB` is by itself. -/
theorem packetsComeOnlyFromAClose : Obligations.PacketsComeOnlyFromAClose := by
  intro b s t o e p h hreport
  have hevent := execPb_next_event h hreport
  obtain ⟨d, o', e', p', hmove, rfl⟩ := execPb_next h
  cases hreport
  refine ⟨hmove.isSome_iff, fun he => ?_⟩
  obtain ⟨hd, h8⟩ := hevent he
  refine ⟨hd, h8, ?_⟩
  cases hmove with
  | storeClose | storeDrop => exact ⟨rfl, rfl, rfl⟩
  | closeOk hd' h9 | closeBad hd' h9 => exact absurd (h8.symm.trans h9) (by decide)
  | idleStart | idleDiscard | startRestart | escape | startFirst | store => contradiction

/-- Settles O24: by induction on the bytes, each of which closes the frame or comes nearer to the close. -/
theorem decoderNeverDeadlocks : Obligations.DecoderNeverDeadlocks := by
  intro s hinv
  refine ⟨fun b => execPb_completes b hinv, fun hd bytes hlen => ?_⟩
  have hle : bytesToClose s.dec ≤ bytes.length := hlen ▸ Nat.sub_le _ _
  exact exists_take_reaches_idle bytes hinv hd hle

end

section
/-! SUPPORT. A stuffed frame fed byte by byte (30_encoding R77, R78; 40_sport R118): how the decoder fills its buffer,
what the last byte answers, and the same bytes through the host loop (70_reset R273). -/

namespace Sys2Proof.Machine

/-! ## Bytes that answer `NONE` -/

/-- The report of a `PB` that closes no frame. -/
def noneReport : Option Report := some ⟨.ok, .decoded .none none⟩

/-- A run of `PB`s that each answer `NONE`. -/
inductive Silent : List Byte → State → State → Prop
  | nil (s : State) : Silent [] s s
  | cons {b : Byte} {bytes : List Byte} {s t u : State} (h : execPb b s = .next t) (hreport : t.report = noneReport)
      (hrest : Silent bytes t u) : Silent (b :: bytes) s u

theorem Silent.single {b : Byte} {s t : State} (h : execPb b s = .next t) (hreport : t.report = noneReport) :
    Silent [b] s t :=
  .cons h hreport (.nil t)

theorem Silent.append {xs ys : List Byte} {s t u : State} (hx : Silent xs s t) (hy : Silent ys t u) :
    Silent (xs ++ ys) s u := by
  induction hx with
  | nil => exact hy
  | cons h hreport _ ih => exact .cons h hreport (ih hy)

/-- What a silent run and one byte more answer. -/
theorem Silent.runTxns_concat {bytes : List Byte} {b : Byte} {s t u : State} (h : Silent bytes s t)
    (hlast : execPb b t = .next u) :
    runTxns (pbs (bytes ++ [b])) s = some (u, List.replicate bytes.length noneReport ++ [u.report]) := by
  induction h with
  | nil s => exact runTxns_cons (i := .pb b) hlast rfl
  | cons h hreport _ ih =>
    have hrun := runTxns_cons (i := .pb _) h (ih hlast)
    rwa [hreport] at hrun

/-! ## One stuffed byte -/

/-- A stuffed byte is one byte, an escape marker before it or not, that de-stuffs to it and is no marker
(30_encoding R78). -/
theorem exists_stuffByte_eq (b : Byte) :
    ∃ esc x, stuffByte b = (if esc then [sportEsc] else []) ++ [x] ∧ destuff esc x = b ∧
      x ≠ sportSof ∧ x ≠ sportEsc := by
  by_cases hsof : b = 0x7E#8
  · subst hsof
    exact ⟨true, 0x5E#8, by decide⟩
  by_cases hesc : b = 0x7D#8
  · subst hesc
    exact ⟨true, 0x5D#8, by decide⟩
  · exact ⟨false, b, by rw [stuffByte, if_neg hsof, if_neg hesc]; rfl, rfl, hsof, hesc⟩

/-- A stuffed byte as far as its last wire byte: an escape marker leads from `P false` to `P true`. -/
theorem silent_escape {P : Bool → State} (esc : Bool) (hesc : execPb sportEsc (P false) = .next (P true))
    (hreport : (P true).report = noneReport) : Silent (if esc then [sportEsc] else []) (P false) (P esc) := by
  cases esc
  · exact .nil _
  · exact .single hesc hreport

/-- A stuffed byte: an escape marker leads from `P false` to `P true`, and a byte that de-stuffs to it on to `t`. -/
theorem silent_stuffByte {P : Bool → State} {t : State} (b : Byte)
    (hesc : execPb sportEsc (P false) = .next (P true)) (hreport : (P true).report = noneReport)
    (ht : t.report = noneReport)
    (hbyte : ∀ esc x, x ≠ sportSof → x ≠ sportEsc → destuff esc x = b → execPb x (P esc) = .next t) :
    Silent (stuffByte b) (P false) t := by
  obtain ⟨esc, x, hstuff, hdestuff, hsof, hne⟩ := exists_stuffByte_eq b
  rw [hstuff]
  exact (silent_escape esc hesc hreport).append (.single (hbyte esc x hsof hne hdestuff) ht)

/-! ## The buffer fills -/

/-- `s` with the decoder in `Start`. -/
def State.started (s : State) (esc : Bool) : State :=
  { s with dec := { s.dec with dstate := .start, esc := esc, idx := 0#4 }, report := noneReport }

/-- `s` with the decoder in `Data`, `n` bytes stored. -/
def State.filling (s : State) (n : Nat) (buf : Vector Byte 9) (esc : Bool) : State :=
  { s with dec := { dstate := .data, esc := esc, idx := BitVec.ofNat 4 n, buf := buf }, report := noneReport }

section
variable (s : State)

theorem execPb_sof_of_idle (hidle : s.dec.dstate = .idle) : execPb sportSof s = .next (s.started false) :=
  (execPb_idle hidle).trans (if_pos rfl)

theorem execPb_escape_started : execPb sportEsc (s.started false) = .next (s.started true) := by
  rw [execPb_start rfl, if_neg (by decide), if_pos rfl]
  rfl

theorem set_zero_eq_setIfInBounds (buf : Vector Byte 9) (b : Byte) : buf.set 0 b = buf.setIfInBounds 0 b := by
  apply Vector.ext
  intro j hj
  rw [Vector.getElem_setIfInBounds, Vector.getElem_set]

theorem execPb_first_started {x : Byte} (esc : Bool) (hsof : x ≠ sportSof) (hne : x ≠ sportEsc) :
    execPb x (s.started esc) = .next (s.filling 1 (s.dec.buf.setIfInBounds 0 (destuff esc x)) false) := by
  rw [execPb_start rfl, if_neg hsof, if_neg hne, ← set_zero_eq_setIfInBounds]
  rfl

variable (n : Nat) (buf : Vector Byte 9)

theorem execPb_escape_filling : execPb sportEsc (s.filling n buf false) = .next (s.filling n buf true) :=
  (execPb_data rfl).trans (if_pos ⟨rfl, rfl⟩)

theorem execPb_filling {x : Byte} (esc : Bool) (hne : x ≠ sportEsc) :
    execPb x (s.filling n buf esc) = storeData x (s.filling n buf esc) :=
  (execPb_data rfl).trans (if_neg fun h => hne h.2)

variable {n}

theorem filling_idx_toNat (esc : Bool) (hn : n ≤ 8) : (s.filling n buf esc).dec.idx.toNat = n := by
  simp only [State.filling, BitVec.toNat_ofNat]
  omega

/-- A store moves the filling buffer on by one byte. -/
theorem setDec_storeByte_filling {x : Byte} (esc : Bool) (hn : n ≤ 8) :
    (s.filling n buf esc).setDec (storeByte (s.filling n buf esc).dec x)
      = s.filling (n + 1) (buf.setIfInBounds n (destuff esc x)) false := by
  have hidx := filling_idx_toNat s buf esc hn
  rw [storeByte, hidx, State.filling, State.filling, BitVec.ofNat_add]
  rfl

/-- A byte that does not fill the buffer is stored. -/
theorem execPb_store_filling {x : Byte} (esc : Bool) (hne : x ≠ sportEsc) (hn : n < 8) :
    execPb x (s.filling n buf esc) = .next (s.filling (n + 1) (buf.setIfInBounds n (destuff esc x)) false) := by
  have hidx := filling_idx_toNat s buf esc hn.le
  have h8 : (s.filling n buf esc).dec.idx ≠ 8#4 := fun h => by
    rw [h] at hidx
    simp at hidx
    omega
  rw [execPb_filling s n buf esc hne, storeData_inRange _ _ (hidx.trans_le (by omega)), if_neg h8,
    setDec_storeByte_filling s buf esc (by omega)]
  rfl

/-- The ninth byte closes the frame by the checksum of the eight before it. -/
theorem execPb_last_filling {x : Byte} (esc : Bool) (hne : x ≠ sportEsc) :
    execPb x (s.filling 8 buf esc) = .next (
      let full := s.filling 9 (buf.setIfInBounds 8 (destuff esc x)) false
      if chk s.cfg.crcVariant (buf.toList.take 8) = destuff esc x then closeOk full else closeBad full) := by
  have h8 : (s.filling 8 buf esc).dec.idx = 8#4 := rfl
  rw [execPb_filling s 8 buf esc hne, storeData_inRange _ _ (filling_idx_toNat s buf esc (by decide)).le, if_pos h8,
    setDec_storeByte_filling s buf esc (by decide)]
  rfl

end

/-- The first bytes of the buffer after a store at index `n`. -/
theorem take_succ_setIfInBounds (buf : Vector Byte 9) (b : Byte) {n : Nat} (hn : n < 9) :
    (buf.setIfInBounds n b).toList.take (n + 1) = buf.toList.take n ++ [b] := by
  have hlen : n < (buf.setIfInBounds n b).toList.length := by simpa using hn
  rw [List.take_add_one, List.getElem?_eq_getElem hlen]
  simp [Vector.toList_setIfInBounds, List.take_set_of_le]

theorem silent_stuffByte_filling (s : State) (b : Byte) {n : Nat} (buf : Vector Byte 9) (hn : n < 8) :
    Silent (stuffByte b) (s.filling n buf false) (s.filling (n + 1) (buf.setIfInBounds n b) false) := by
  refine silent_stuffByte b (execPb_escape_filling s n buf) rfl rfl fun esc x _ hne hdestuff => ?_
  rw [execPb_store_filling s buf esc hne hn, hdestuff]

/-- Stuffed bytes that do not fill the buffer are stored one after the other. -/
theorem silent_stuff_filling (s : State) (bytes : List Byte) {n : Nat} (buf : Vector Byte 9)
    (hn : n + bytes.length ≤ 8) :
    ∃ buf' : Vector Byte 9, buf'.toList.take (n + bytes.length) = buf.toList.take n ++ bytes ∧
      Silent (stuff bytes) (s.filling n buf false) (s.filling (n + bytes.length) buf' false) := by
  induction bytes generalizing n buf with
  | nil => exact ⟨buf, (List.append_nil _).symm, .nil _⟩
  | cons b bytes ih =>
    rw [List.length_cons] at hn
    obtain ⟨buf', hbuf', hsilent⟩ := ih (n := n + 1) (buf.setIfInBounds n b) (by omega)
    rw [take_succ_setIfInBounds buf b (by omega), List.append_assoc, Nat.add_right_comm] at hbuf'
    rw [Nat.add_right_comm] at hsilent
    exact ⟨buf', hbuf', (silent_stuffByte_filling s b buf (by omega)).append hsilent⟩

/-! ## A whole frame -/

/-- How a frame ends whose nine bytes are those of `buf`, the last one `check`. -/
def State.framed (s : State) (bytes : List Byte) (check : Byte) (buf : Vector Byte 9) : State :=
  if chk s.cfg.crcVariant bytes = check then closeOk (s.filling 9 buf false) else closeBad (s.filling 9 buf false)

/-- A stuffed frame from `Idle`: every wire byte but the last answers `NONE`, and the last closes the frame, the nine
frame bytes in the buffer (40_sport R118). -/
theorem wireFrame_feed {s : State} {bytes : List Byte} (check : Byte) (hidle : s.dec.dstate = .idle)
    (hlen : bytes.length = 8) :
    ∃ wire x u buf, wireFrame (bytes ++ [check]) = wire ++ [x] ∧ Silent wire s u ∧
      buf.toList = bytes ++ [check] ∧ execPb x u = .next (s.framed bytes check buf) := by
  obtain ⟨b, rest, rfl⟩ : ∃ b rest, bytes = b :: rest := List.exists_cons_of_length_eq_add_one hlen
  have hrest : 1 + rest.length = 8 := by rw [Nat.add_comm]; exact hlen
  have hstart : Silent (sportSof :: stuffByte b) s (s.filling 1 (s.dec.buf.setIfInBounds 0 b) false) := by
    refine .cons (execPb_sof_of_idle s hidle) rfl (silent_stuffByte b (execPb_escape_started s) rfl rfl ?_)
    intro esc x hsof hne hdestuff
    rw [execPb_first_started s esc hsof hne, hdestuff]
  obtain ⟨buf, hbuf, hfill⟩ := silent_stuff_filling s rest (s.dec.buf.setIfInBounds 0 b) hrest.le
  obtain ⟨esc, x, hstuff, hdestuff, hsof, hne⟩ := exists_stuffByte_eq check
  rw [hrest] at hbuf hfill
  have htake : buf.toList.take 8 = b :: rest := by
    rw [hbuf, take_succ_setIfInBounds s.dec.buf b (by decide)]
    rfl
  refine ⟨(sportSof :: stuffByte b) ++ stuff rest ++ (if esc then [sportEsc] else []), x, s.filling 8 buf esc,
    buf.setIfInBounds 8 check, ?_, ?_, ?_, ?_⟩
  · simp [wireFrame, stuff, hstuff]
  · exact (hstart.append hfill).append (silent_escape esc (execPb_escape_filling s 8 buf) rfl)
  · have hfull := take_succ_setIfInBounds buf check (n := 8) (by decide)
    rwa [htake, List.take_of_length_le (by simp)] at hfull
  · rw [execPb_last_filling s buf esc hne, htake, hdestuff]
    rfl

/-- A buffer that holds the bytes of a packet gives that packet (30_encoding R80, R81). -/
theorem assemblePacket_packetBytes {p : SensorPacket} {check : Byte} {buf : Vector Byte 9}
    (h : buf.toList = packetBytes p ++ [check]) : assemblePacket buf = p := by
  have hbuf : buf = #v[p.sensorId, p.frameId, byteAt p.dataId 0, byteAt p.dataId 1, byteAt p.rawValue 0,
      byteAt p.rawValue 1, byteAt p.rawValue 2, byteAt p.rawValue 3, check] := by
    apply Vector.toList_inj.mp
    rw [h]
    rfl
  calc assemblePacket buf
    _ = ⟨p.sensorId, p.frameId, le16 (byteAt p.dataId 0) (byteAt p.dataId 1),
          le32 (byteAt p.rawValue 0) (byteAt p.rawValue 1) (byteAt p.rawValue 2) (byteAt p.rawValue 3)⟩ := by
      rw [hbuf]
      rfl
    _ = p := by rw [le16_half16, le32_word32]

section
variable (s : State) (bytes : List Byte) (check : Byte) (buf : Vector Byte 9)

theorem framed_report_ok (h : check = chk s.cfg.crcVariant bytes) :
    (s.framed bytes check buf).report = some ⟨.ok, .decoded .packet (some (assemblePacket buf))⟩ := by
  rw [State.framed, if_pos h.symm]
  rfl

theorem framed_report_bad (h : check ≠ chk s.cfg.crcVariant bytes) :
    (s.framed bytes check buf).report = some ⟨.frameIntegrity, .decoded .crcError none⟩ := by
  rw [State.framed, if_neg h.symm]
  rfl

theorem framed_dec : (s.framed bytes check buf).dec = ⟨.idle, false, 9#4, buf⟩ := by
  rw [State.framed]
  split_ifs <;> rfl

/-- A frame changes nothing outside the decoder and the output port (20_memory R58). -/
theorem framed_frame : (s.framed bytes check buf).snap = s.snap ∧ (s.framed bytes check buf).refused = s.refused ∧
    (s.framed bytes check buf).sink = s.sink ∧ (s.framed bytes check buf).cfg = s.cfg := by
  rw [State.framed]
  split_ifs <;> exact ⟨rfl, rfl, rfl, rfl⟩

end

/-! ## Through the host loop -/

theorem pbconv_of_packet {b : Byte} (now : Timestamp) {s t : State} {p : SensorPacket} {o : OutcomeCode}
    (h : execPb b s = .next t) (hreport : t.report = some ⟨o, .decoded .packet (some p)⟩) :
    pbconv b now s = execConv p now t := by
  simp only [pbconv, exec, h, packetAnswered, hreport]

theorem pbconv_of_no_packet {b : Byte} (now : Timestamp) {s t : State} {o : OutcomeCode} {e : DecodeEvent}
    (h : execPb b s = .next t) (hreport : t.report = some ⟨o, .decoded e none⟩) : pbconv b now s = .next t := by
  simp only [pbconv, exec, h, packetAnswered, hreport]

/-- The host loop passes over the bytes of a silent run, whatever the clock reads. -/
theorem Silent.hostDrain_append {bytes : List Byte} {s t : State} (h : Silent bytes s t) {nows : List Timestamp}
    (hlen : bytes.length = nows.length) (rest : List (Byte × Timestamp)) :
    hostDrain (bytes.zip nows ++ rest) s = hostDrain rest t := by
  induction h generalizing nows with
  | nil => rfl
  | cons h hreport _ ih =>
    obtain ⟨now, nows, rfl⟩ := List.exists_cons_of_length_eq_add_one hlen.symm
    simp only [List.zip_cons_cons, List.cons_append, hostDrain, pbconv_of_no_packet now h hreport]
    exact ih (Nat.succ.inj hlen)

theorem hostDrain_single (b : Byte) (now : Timestamp) (s : State) : hostDrain [(b, now)] s = pbconv b now s := by
  simp only [hostDrain]
  cases pbconv b now s <;> rfl

theorem State.block_eq_iff {s t : State} :
    t.block = s.block ↔ t.dec = s.dec ∧ t.snap = s.snap ∧ t.refused = s.refused := by
  simp [State.block]

/-- What a `CONV` does to the snapshot, the sink and the output port rests on these and the parameters only. -/
theorem execConv_congr {p : SensorPacket} {now : Timestamp} {s s' t t' : State} (hcfg : s'.cfg = s.cfg)
    (hsnap : s'.snap = s.snap) (hsink : s'.sink = s.sink) (h : execConv p now s = .next t)
    (h' : execConv p now s' = .next t') : t'.snap = t.snap ∧ t'.sink = t.sink ∧ t'.report = t.report := by
  rw [execConv_eq] at h h'
  rw [← Host.Outcome.next.inj h, ← Host.Outcome.next.inj h', hcfg, hsnap]
  split
  · exact ⟨rfl, hsink, rfl⟩
  · split_ifs
    · exact ⟨rfl, congrArg (· ++ _) hsink, rfl⟩
    · exact ⟨rfl, hsink, rfl⟩

end Sys2Proof.Machine

open Sys2Proof Sys2Proof.Machine

/-- Settles O25: the frame is fed silently up to its last byte, whose close answers by the checksum. -/
theorem stuffedFramesDecodeExactly : Obligations.StuffedFramesDecodeExactly := by
  intro s p check hidle wire last
  obtain ⟨init, x, u, buf, hwire, hsilent, hbuf, hlast⟩ :=
    wireFrame_feed (bytes := packetBytes p) check hidle rfl
  have hreport : (s.framed (packetBytes p) check buf).report = some last := by
    by_cases h : check = chk s.cfg.crcVariant (packetBytes p)
    · rw [framed_report_ok _ _ _ _ h, assemblePacket_packetBytes hbuf]
      exact congrArg some (if_pos h).symm
    · rw [framed_report_bad _ _ _ _ h]
      exact congrArg some (if_neg h).symm
  obtain ⟨hsnap, hrefused, hsink, hcfg⟩ := framed_frame s (packetBytes p) check buf
  refine ⟨_, ?_, ?_, ?_, ?_, hsnap, hrefused, hsink, hcfg⟩
  · have hrun := hsilent.runTxns_concat hlast
    rw [hreport] at hrun
    simpa [wire, hwire, noneReport] using hrun
  all_goals rw [framed_dec]
  exact hbuf

/-- Settles O59: the host loop passes over the silent bytes, and its last byte is the close, then the `CONV` of the
packet or nothing. -/
theorem hostLoopConvertsOneFrame : Obligations.HostLoopConvertsOneFrame := by
  intro s p check earlier last hidle hlen bytes
  obtain ⟨init, x, u, buf, hwire, hsilent, hbuf, hlast⟩ :=
    wireFrame_feed (bytes := packetBytes p) check hidle rfl
  have hdrain : hostDrain bytes s = pbconv x last u := by
    have hinit : init.length = earlier.length := by
      rw [hwire] at hlen
      simpa using hlen
    have hzip : bytes = init.zip earlier ++ [(x, last)] := by
      simp only [bytes, hwire, List.zip_append hinit]
      rfl
    rw [hzip, hsilent.hostDrain_append hinit, hostDrain_single]
  obtain ⟨hsnap, hrefused, hsink, hcfg⟩ := framed_frame s (packetBytes p) check buf
  refine ⟨fun h => ?_, fun h => ?_⟩
  · have hreport := framed_report_ok s (packetBytes p) check buf h
    rw [assemblePacket_packetBytes hbuf] at hreport
    obtain ⟨t, ht⟩ : ∃ t, execConv p last (s.framed (packetBytes p) check buf) = .next t := ⟨_, execConv_eq _ _ _⟩
    obtain ⟨v, hv⟩ : ∃ v, execConv p last s = .next v := ⟨_, execConv_eq _ _ _⟩
    obtain ⟨htsnap, htsink, htreport⟩ := execConv_congr hcfg hsnap hsink hv ht
    obtain ⟨hdec, -, htrefused⟩ := State.block_eq_iff.mp (execConv_next ht).block
    refine ⟨t, v, hdrain.trans ((pbconv_of_packet last hlast hreport).trans ht), hv, htsnap, htsink, htreport, ?_, ?_⟩
    · exact htrefused.trans hrefused
    · rw [hdec]
      exact congrArg Decoder.dstate (framed_dec s (packetBytes p) check buf)
  · have hreport := framed_report_bad s (packetBytes p) check buf h
    exact ⟨_, hdrain.trans (pbconv_of_no_packet last hlast hreport), hsnap, hsink, hrefused, hreport,
      congrArg Decoder.dstate (framed_dec s (packetBytes p) check buf)⟩

end

section
/-! SUPPORT. The two checksums in closed form (40_sport R102, R103) and what the CRC-8 sees (41_crsf R140). -/

namespace Sys2Proof.Machine

/-! ## The masked checksum (40_sport R102) -/

/-- The sum of a byte sequence. -/
def byteSum (bytes : List Byte) : Nat := (bytes.map BitVec.toNat).sum

theorem byteSum_cons (b : Byte) (bytes : List Byte) : byteSum (b :: bytes) = b.toNat + byteSum bytes := rfl

theorem and_0xFF (n : Nat) : n &&& 0xFF = n % 256 := Nat.and_two_pow_sub_one_eq_mod n 8

theorem shiftRight_8 (n : Nat) : n >>> 8 = n / 256 := Nat.shiftRight_eq_div_pow n 8

/-- The fold after the mask has no carry to add. -/
theorem chkStepMasked_eq (crc : Nat) (b : Byte) : chkStepMasked crc b = (crc + b.toNat) % 256 := by
  simp only [chkStepMasked, and_0xFF, shiftRight_8]
  omega

theorem foldl_chkStepMasked (bytes : List Byte) (n : Nat) :
    bytes.foldl chkStepMasked (n % 256) = (n + byteSum bytes) % 256 := by
  induction bytes generalizing n with
  | nil => rfl
  | cons b bytes ih =>
    rw [List.foldl_cons, chkStepMasked_eq, Nat.mod_add_mod, ih, byteSum_cons, Nat.add_assoc]

theorem chk_masked_toNat (bytes : List Byte) : (chk .masked bytes).toNat = 0xFF - byteSum bytes % 256 := by
  have hfold : bytes.foldl chkStepMasked 0 = byteSum bytes % 256 := by
    simpa using foldl_chkStepMasked bytes 0
  rw [chk, chkStep, hfold, BitVec.toNat_ofNat]
  omega

/-! ## The end-around-carry checksum (40_sport R103) -/

/-- A sum folded modulo 255, a multiple of 255 above 0 counting as 0xFF. -/
def carryFold (n : Nat) : Nat := if n = 0 then 0 else (n - 1) % 255 + 1

theorem carryFold_le (n : Nat) : carryFold n ≤ 0xFF := by
  unfold carryFold
  split_ifs <;> omega

/-- Above 0, a multiple of 255 more makes no difference. -/
theorem carryFold_add_mul {m : Nat} (q : Nat) (hm : m ≠ 0) : carryFold (m + 255 * q) = carryFold m := by
  have hpred : m + 255 * q - 1 = m - 1 + 255 * q := by omega
  rw [carryFold, carryFold, if_neg hm, if_neg (by omega), hpred, Nat.add_mul_mod_self_left]

/-- A sum is its fold and a multiple of 255. -/
theorem eq_carryFold_add_mul (n : Nat) : n = carryFold n + 255 * ((n - 1) / 255) := by
  unfold carryFold
  split_ifs <;> omega

/-- One round on a folded sum folds again. -/
theorem chkStepEndAround_eq {r : Nat} (b : Byte) (hr : r ≤ 0xFF) : chkStepEndAround r b = carryFold (r + b.toNat) := by
  have hb := b.isLt
  simp only [chkStepEndAround, and_0xFF, shiftRight_8, carryFold]
  obtain hcarry | hcarry : r + b.toNat ≤ 0xFF ∨ 0x100 ≤ r + b.toNat := by omega
  · have hdiv : (r + b.toNat) / 256 = 0 := by omega
    rw [hdiv]
    split_ifs <;> omega
  · have hdiv : (r + b.toNat) / 256 = 1 := by omega
    rw [hdiv, if_neg (by omega)]
    omega

/-- One round adds a byte to the sum and folds it. -/
theorem chkStepEndAround_carryFold (n : Nat) (b : Byte) :
    chkStepEndAround (carryFold n) b = carryFold (n + b.toNat) := by
  rw [chkStepEndAround_eq b (carryFold_le n)]
  by_cases hn : n = 0
  · rw [hn]
    rfl
  · have hpos : carryFold n + b.toNat ≠ 0 := by simp [carryFold, hn]
    rw [← carryFold_add_mul ((n - 1) / 255) hpos, Nat.add_right_comm, ← eq_carryFold_add_mul]

theorem foldl_chkStepEndAround (bytes : List Byte) (n : Nat) :
    bytes.foldl chkStepEndAround (carryFold n) = carryFold (n + byteSum bytes) := by
  induction bytes generalizing n with
  | nil => rfl
  | cons b bytes ih => rw [List.foldl_cons, chkStepEndAround_carryFold, ih, byteSum_cons, Nat.add_assoc]

theorem chk_endAroundCarry_toNat (bytes : List Byte) :
    (chk .endAroundCarry bytes).toNat = 0xFF - carryFold (byteSum bytes) := by
  have hfold : bytes.foldl chkStepEndAround 0 = carryFold (byteSum bytes) := by
    simpa [carryFold] using foldl_chkStepEndAround bytes 0
  rw [chk, chkStep, hfold, BitVec.toNat_ofNat]
  omega

/-! ## The CRC-8 (41_crsf R140) -/

/-- The byte that `crc8Bit` takes to `c`: the polynomial is odd, so bit 0 says whether it was added. -/
def crc8Unbit (c : Byte) : Byte := if c.getLsbD 0 then ((c ^^^ crc8Poly) >>> 1) ||| 0x80#8 else c >>> 1

theorem crc8Bit_injective : Function.Injective crc8Bit := by
  have hleft : Function.LeftInverse crc8Unbit crc8Bit := by
    unfold Function.LeftInverse
    decide
  exact hleft.injective

theorem crc8Byte_eq_iterate (c x : Byte) : crc8Byte c x = crc8Bit^[8] (c ^^^ x) := rfl

theorem crc8Byte_eq_iff {c c' x x' : Byte} : crc8Byte c x = crc8Byte c' x' ↔ c ^^^ x = c' ^^^ x' := by
  rw [crc8Byte_eq_iterate, crc8Byte_eq_iterate, (crc8Bit_injective.iterate 8).eq_iff]

theorem crc8Byte_zero : crc8Byte 0#8 0#8 = 0#8 := by decide

theorem crc8_concat (bytes : List Byte) (x : Byte) : crc8 (bytes ++ [x]) = crc8Byte (crc8 bytes) x := by
  rw [crc8, List.foldl_append]
  rfl

/-- Equal bytes at the end of a sequence carry a difference on. -/
theorem foldl_crc8Byte_injective (bytes : List Byte) : Function.Injective fun c => bytes.foldl crc8Byte c := by
  induction bytes with
  | nil => exact Function.injective_id
  | cons b bytes ih =>
    have hbyte : Function.Injective fun c => crc8Byte c b := fun c c' h =>
      (BitVec.xor_left_inj _).mp (crc8Byte_eq_iff.mp h)
    exact ih.comp hbyte

end Sys2Proof.Machine

open Sys2Proof Sys2Proof.Machine

/-- Settles O26: each checksum folds the byte sum, modulo 256 or modulo 255, and up to 0xFF the two folds agree. -/
theorem checksumClosedForms : Obligations.ChecksumClosedForms := by
  refine ⟨chk_masked_toNat, fun bytes hsum => ?_, chk_endAroundCarry_toNat⟩
  have hsum : byteSum bytes ≤ 0xFF := hsum
  apply BitVec.eq_of_toNat_eq
  rw [chk_masked_toNat, chk_endAroundCarry_toNat, carryFold]
  split_ifs <;> omega

/-- Settles O27: a round of the CRC is injective in the CRC and in the byte, and takes 0 to 0. -/
theorem crcVerifiesAndSeesOneChangedByte : Obligations.CrcVerifiesAndSeesOneChangedByte := by
  refine ⟨fun bytes x => ?_, fun before after a b hab heq => hab ?_⟩
  · calc crc8 (bytes ++ [x]) = 0#8
      _ ↔ crc8Byte (crc8 bytes) x = crc8Byte 0#8 0#8 := by rw [crc8_concat, crc8Byte_zero]
      _ ↔ crc8 bytes ^^^ x = 0#8 := by rw [crc8Byte_eq_iff, BitVec.xor_self]
      _ ↔ x = crc8 bytes := by rw [BitVec.xor_eq_zero_iff, eq_comm]
  · have hbyte : crc8Byte (crc8 before) a = crc8Byte (crc8 before) b := by
      simp only [crc8, List.foldl_append, List.foldl_cons] at heq
      exact foldl_crc8Byte_injective after heq
    exact (BitVec.xor_right_inj _).mp (crc8Byte_eq_iff.mp hbyte)

end

section
/-! SUPPORT. The battery frame (41_crsf R145), and which keys the last row of each format takes
(30_encoding R82, R85). -/

namespace Sys2Proof.Machine

/-! ## The battery payload -/

theorem payloadBytes_battery_three {c : Params} (v i : Half) (cap : Word) (rem : Byte) (h : c.battCap = .three) :
    payloadBytes c (.battery v i cap rem) = [v.extractLsb' 8 8, v.extractLsb' 0 8, i.extractLsb' 8 8,
      i.extractLsb' 0 8, cap.extractLsb' 16 8, cap.extractLsb' 8 8, cap.extractLsb' 0 8, rem] := by
  rw [payloadBytes, h, battCapBytes, beBytes_two, beBytes_two, beBytes_three, beBytes_one]
  rfl

theorem payloadBytes_battery_four {c : Params} (v i : Half) (cap : Word) (rem : Byte) (h : c.battCap = .four) :
    payloadBytes c (.battery v i cap rem) = [v.extractLsb' 8 8, v.extractLsb' 0 8, i.extractLsb' 8 8,
      i.extractLsb' 0 8, cap.extractLsb' 24 8, cap.extractLsb' 16 8, cap.extractLsb' 8 8, cap.extractLsb' 0 8,
      rem] := by
  rw [payloadBytes, h, battCapBytes, beBytes_two, beBytes_two, beBytes_four, beBytes_one]
  rfl

/-! ## The last rows -/

theorem selectCrsf_refused_iff (ft : Byte) :
    selectCrsf ft = .refused ↔ ft ∉ [0x02#8, 0x07#8, 0x08#8, 0x09#8, 0x0B#8] := by
  revert ft
  decide

theorem selectBld_refused_iff (cat : Byte) : selectBld cat = .refused ↔ cat ∉ [0x02#8, 0x07#8, 0x08#8, 0x09#8] := by
  revert cat
  decide

theorem payloadTag_mem (p : Payload) : payloadTag p ∈ [0x02#8, 0x07#8, 0x08#8, 0x09#8] := by
  cases p <;> simp [payloadTag]

theorem encodeAs_of_payloadTag_ne {cat : Category} {p : Payload} (s : State) (h : payloadTag p ≠ frameTypeOf cat) :
    encodeAs cat p s = .next s.refuse := by
  rw [encodeAs_eq, if_neg h]

end Sys2Proof.Machine

open Sys2Proof Sys2Proof.Machine

/-- Settles O30: both run `encodeAs .battery`, whose frame carries the capacity bytes that `BATT_CAP_BYTES` asks for. -/
theorem batteryFrameBytes : Obligations.BatteryFrameBytes := by
  intro s v i cap rem head low body3 body4 f t
  have henc : encodeAs .battery (.battery v i cap rem) s = .next t := by
    rw [encodeAs_of_payloadTag rfl]
    simp only [t, f]
    cases hcap : s.cfg.battCap
    · rw [payloadBytes_battery_three v i cap rem hcap]
      rfl
    · rw [payloadBytes_battery_four v i cap rem hcap]
      rfl
  exact ⟨(execEnc_frameTypeOf .battery _ s).trans henc, henc⟩

/-- Settles O32. -/
theorem heartbeatFrameBytes : Obligations.HeartbeatFrameBytes :=
  fun _ => rfl

/-- Settles O33: an `ENC` is refused but under its payload's tag, and the last rows are refused under their keys. -/
theorem contractViolationsOnlySetTheMark : Obligations.ContractViolationsOnlySetTheMark := by
  intro s t
  refine ⟨fun ft p h => ?_, fun p h => encodeAs_of_payloadTag_ne (cat := .gps) s h,
    fun p h => encodeAs_of_payloadTag_ne (cat := .vario) s h,
    fun p h => encodeAs_of_payloadTag_ne (cat := .battery) s h,
    fun p h => encodeAs_of_payloadTag_ne (cat := .baro) s h, fun p => rfl, fun ft p h => ?_,
    fun cat now h => ?_, rfl⟩
  · have htag : payloadTag p ≠ ft := by
      rintro rfl
      exact h.elim (fun hmem => hmem (payloadTag_mem p)) (fun hne => hne rfl)
    exact (execEnc_eq ft p s).trans (congrArg _ (if_neg htag))
  · exact if_pos ((selectCrsf_refused_iff ft).mpr h)
  · have hsel := (selectBld_refused_iff cat).mpr h
    refine ⟨?_, if_pos hsel⟩
    rw [exec, execBld, hsel]
    rfl

/-- Settles O60: a key that an earlier row takes does not select the last row. -/
theorem unselectedLastRowsStop : Obligations.UnselectedLastRowsStop := by
  refine ⟨fun s ft p h => ?_, fun s cat now h => ?_, fun s p now h => ?_⟩
  · exact if_neg fun hsel => (selectCrsf_refused_iff ft).mp hsel h
  · exact if_neg fun hsel => (selectBld_refused_iff cat).mp hsel h
  · exact if_neg fun hsel => (selectUpd_other_iff s.cfg p.dataId).mp hsel h

end

section
/-! SUPPORT. The conversions of the sensor field unpacker in numbers (42_sensor_unpack R172 to R180). -/

namespace Sys2Proof.Machine

/-! ## The converted values -/

/-- The magnitude of the coordinate of the low 30 bits `v`: each divided term truncated on its own
(42_sensor_unpack R172). -/
def coordinateMagnitude (v : Nat) : Nat :=
  v / 1000000 * 10000000 + v % 1000000 / 10000 * 10000000 / 60 + v % 10000 * 1000 / 60

theorem extractLsb'_30_toNat (raw : Word) : (raw.extractLsb' 0 30).toNat = raw.toNat % 2 ^ 30 := by
  rw [BitVec.extractLsb'_toNat, Nat.shiftRight_zero]

theorem coordinate_eq (raw : Word) :
    coordinate raw = if raw.getLsbD 30 then -(coordinateMagnitude (raw.extractLsb' 0 30).toNat : Int)
      else coordinateMagnitude (raw.extractLsb' 0 30).toNat := by
  rw [extractLsb'_30_toNat]
  rfl

/-- The magnitude passes the i32 range from 214449019 on, and meets neither end of it. -/
theorem coordinateMagnitude_gt_iff (v : Nat) :
    (2 ^ 31 < coordinateMagnitude v ↔ 214449019 ≤ v) ∧ (2 ^ 31 ≤ coordinateMagnitude v ↔ 214449019 ≤ v) := by
  unfold coordinateMagnitude
  omega

theorem gpsAltitude_toNat (raw : Word) : (gpsAltitude raw).toNat = raw.toNat / 10 + 1000 := by
  have := raw.isLt
  rw [gpsAltitude, BitVec.toNat_ofNat]
  omega

theorem gpsSpeed_toNat (raw : Word) : (gpsSpeed raw).toNat = raw.toNat * 1852 % 2 ^ 32 / 10000 := by
  rw [gpsSpeed, BitVec.toNat_ofNat]
  omega

theorem gpsHeading_toNat (raw : Word) : (gpsHeading raw).toNat = raw.toNat / 100 := by
  have := raw.isLt
  rw [gpsHeading, BitVec.toNat_ofNat]
  omega

theorem voltageMv_toNat (raw : Word) : (voltageMv raw).toNat = raw.toNat * 100 % 2 ^ 32 :=
  BitVec.toNat_ofNat _ 32

/-- Dividing by 10 toward zero stays in the i32 range. -/
theorem baroAltitude_toInt (raw : Word) : (baroAltitude raw).toInt = raw.toInt.tdiv 10 := by
  have hlow := raw.le_toInt
  have hhigh := raw.toInt_lt
  have habs : (raw.toInt.tdiv 10).natAbs = raw.toInt.natAbs / 10 := Int.natAbs_tdiv _ _
  exact BitVec.toInt_ofInt_eq_self (by decide) (by omega) (by omega)

theorem varioSpeed_toInt (raw : Word) : (varioSpeed raw).toInt = raw.toInt.bmod (2 ^ 16) := by
  rw [varioSpeed, BitVec.toInt_setWidth, BitVec.toInt_eq_toNat_bmod, Int.bmod_bmod_of_dvd (by decide)]

/-! ## An identifier's row and its `UPD` -/

theorem updated_eq (snap : Snapshot) (s : State) :
    updated snap s = .next { s with snap := snap, report := some ⟨.ok, .nothing⟩ } := rfl

/-- An `UPD` of an identifier does what the row it selects does (42_sensor_unpack R170). -/
theorem exec_upd_of_selectUpd {s t : State} {d : Half} {row : UpdRow} {raw : Word} {now : Timestamp} (sid fid : Byte)
    (hsel : selectUpd s.cfg d = row) (h : updated (storeRow raw now s.snap row) s = .next t) :
    exec (.upd ⟨sid, fid, d, raw⟩ now) s = .next t :=
  (execUpd_of_selectUpd (p := ⟨sid, fid, d, raw⟩) now hsel).trans h

/-- Under an identifier outside the map an update writes nothing (42_sensor_unpack R181). -/
theorem update_of_other {c : Params} {p : SensorPacket} (now : Timestamp) (snap : Snapshot)
    (hsel : selectUpd c p.dataId = .other) : update c p now snap = snap := by
  rw [update, hsel]
  rfl

end Sys2Proof.Machine

open Sys2Proof Sys2Proof.Machine

/-- Settles O37: the case writes `coordinate` wrapped to i32, into the axis that bit 31 names. -/
theorem gpsCoordinateUpdate : Obligations.GpsCoordinateUpdate := by
  intro s sid fid raw now v deg mins frac d d'
  have hvalue : coordinate raw = d' := coordinate_eq raw
  refine ⟨BitVec.ofInt 32 (coordinate raw), hvalue ▸ BitVec.toInt_ofInt .., ?_⟩
  intro g t
  have hstore : updated (storeGpsCoord raw now s.snap) s = .next t := by
    have hgps : touchGps now (if raw.getLsbD 31 then { s.snap.gps with longitude := BitVec.ofInt 32 (coordinate raw) }
        else { s.snap.gps with latitude := BitVec.ofInt 32 (coordinate raw) }) = g := apply_ite (touchGps now) ..
    rw [storeGpsCoord, hgps]
    rfl
  have hsel : selectUpd s.cfg 0x0800#16 = .gpsCoord := (selectUpd_eq ..).trans (if_pos rfl)
  exact ⟨hstore, exec_upd_of_selectUpd sid fid hsel hstore⟩

/-- Settles O38: on either side of zero the magnitude decides. -/
theorem coordinateWrapsFrom214449019 : Obligations.CoordinateWrapsFrom214449019 := by
  intro raw
  obtain ⟨hgt, hge⟩ := coordinateMagnitude_gt_iff (raw.extractLsb' 0 30).toNat
  rw [coordinate_eq]
  split_ifs
  · rw [← hgt]
    omega
  · rw [← hge]
    omega

/-- Settles O39. -/
theorem gpsScalarUpdates : Obligations.GpsScalarUpdates := by
  intro s sid fid raw now hlegal
  obtain ⟨-, halt, hspeed, hheading, -⟩ := selectUpd_ids s.cfg hlegal
  refine ⟨⟨gpsAltitude raw, gpsAltitude_toNat raw, ?_⟩, ⟨gpsSpeed raw, gpsSpeed_toNat raw, ?_⟩,
    ⟨gpsHeading raw, gpsHeading_toNat raw, ?_⟩⟩
  · intro t
    have hstore : updated (storeGpsAlt raw now s.snap) s = .next t := by
      simp only [updated_eq, storeGpsAlt, touchGps, t]
    exact ⟨hstore, exec_upd_of_selectUpd sid fid halt hstore⟩
  · exact ⟨rfl, exec_upd_of_selectUpd sid fid hspeed rfl⟩
  · exact ⟨rfl, exec_upd_of_selectUpd sid fid hheading rfl⟩

/-- Settles O40: both values are the raw value times 100, wrapped. -/
theorem batteryScalarUpdates : Obligations.BatteryScalarUpdates := by
  intro s sid fid raw now hlegal
  obtain ⟨-, -, -, -, hvoltage, hcurrent, -⟩ := selectUpd_ids s.cfg hlegal
  refine ⟨voltageMv raw, voltageMv_toNat raw, ?_, ?_⟩
  · exact ⟨rfl, exec_upd_of_selectUpd sid fid hvoltage rfl⟩
  · exact ⟨rfl, exec_upd_of_selectUpd sid fid hcurrent rfl⟩

/-- Settles O42. -/
theorem baroAndVarioUpdates : Obligations.BaroAndVarioUpdates := by
  intro s sid fid raw now hlegal
  obtain ⟨-, -, -, -, -, -, -, hbaro, hvario⟩ := selectUpd_ids s.cfg hlegal
  refine ⟨⟨baroAltitude raw, baroAltitude_toInt raw, ?_⟩, ⟨varioSpeed raw, varioSpeed_toInt raw, ?_⟩⟩
  · exact ⟨rfl, exec_upd_of_selectUpd sid fid hbaro rfl⟩
  · exact ⟨rfl, exec_upd_of_selectUpd sid fid hvario rfl⟩

/-- Settles O43: the identifier selects `UPD.OTHER`, which writes nothing and routes nowhere. -/
theorem unrecognisedIdentifiersChangeNothing : Obligations.UnrecognisedIdentifiersChangeNothing := by
  intro s p now hid
  have hsel : selectUpd s.cfg p.dataId = .other := (selectUpd_other_iff ..).mpr hid
  have hroute : route s.cfg p.dataId = none := congrArg routeRow hsel
  have hsnap := update_of_other now s.snap hsel
  refine ⟨if_pos hsel, ?_, ?_⟩
  · rw [exec, execUpd, hsnap]
    rfl
  · rw [exec, execConv_eq, hroute, hsnap]
    rfl

end

section
/-! SUPPORT. What `BLD` and `CONV` answer, from the freshness of a category (43_outbound_pack R211 to R220). -/

namespace Sys2Proof.Machine

/-! ## `BLD` -/

/-- The report of a `BLD` (60_exceptions R243). -/
def bldReport (p : Option Payload) : Report := ⟨buildOutcome p, .payload p⟩

theorem buildAs_eq (cat : Category) (now : Timestamp) (s : State) :
    buildAs cat now s = .next { s with report := some (bldReport (buildOutbound s.cfg s.snap cat now)) } := rfl

theorem answered_exec_bld (cat : Category) (now : Timestamp) (s : State) :
    answered (exec (.bld (frameTypeOf cat) now) s) = some (bldReport (buildOutbound s.cfg s.snap cat now)) :=
  congrArg answered (execBld_frameTypeOf cat now s)

theorem buildOutbound_of_fresh {c : Params} {snap : Snapshot} {cat : Category} {now : Timestamp}
    (h : fresh c snap cat now = true) : buildOutbound c snap cat now = some (packPayload snap cat) :=
  if_pos h

theorem buildOutbound_of_stale {c : Params} {snap : Snapshot} {cat : Category} {now : Timestamp}
    (h : ¬ fresh c snap cat now = true) : buildOutbound c snap cat now = none :=
  if_neg h

/-- The report of a `BLD` of a category, by the rule of R211. -/
theorem bldReport_buildOutbound (c : Params) (snap : Snapshot) (cat : Category) (now : Timestamp) :
    bldReport (buildOutbound c snap cat now) =
      if snap.validOf cat = true ∧ ((now : Int) - snap.lastUpdateOf cat) % 2 ^ c.tsBits < c.stalenessTimeout
      then ⟨.ok, .payload (some (packPayload snap cat))⟩ else ⟨.staleData, .payload none⟩ := by
  by_cases h : fresh c snap cat now = true
  · rw [buildOutbound_of_fresh h, if_pos ((fresh_iff ..).mp h)]
    rfl
  · rw [buildOutbound_of_stale h, if_neg (h ∘ (fresh_iff ..).mpr)]
    rfl

/-- A `BLD` answers a payload of a fresh category only, and then the packed one. -/
theorem eq_packPayload_of_bldReport {c : Params} {snap : Snapshot} {cat : Category} {now : Timestamp} {p : Payload}
    (h : bldReport (buildOutbound c snap cat now) = ⟨.ok, .payload (some p)⟩) :
    fresh c snap cat now = true ∧ p = packPayload snap cat := by
  by_cases hfresh : fresh c snap cat now = true
  · rw [buildOutbound_of_fresh hfresh] at h
    cases h
    exact ⟨hfresh, rfl⟩
  · rw [buildOutbound_of_stale hfresh] at h
    cases h

theorem not_fresh_of_bldReport {c : Params} {snap : Snapshot} {cat : Category} {now : Timestamp}
    (h : bldReport (buildOutbound c snap cat now) = ⟨.staleData, .payload none⟩) : ¬ fresh c snap cat now = true := by
  intro hfresh
  rw [buildOutbound_of_fresh hfresh] at h
  cases h

/-- The low 16 bits of a field (43_outbound_pack R221). -/
theorem setWidth_16_eq (v : Word) : v.setWidth 16 = v.extractLsb' 0 16 := BitVec.setWidth_eq_extractLsb' (by decide)

/-- A category that answers a payload is one of the four. -/
theorem exists_frameTypeOf_of_bld_payload {cat : Byte} {now : Timestamp} {s : State} {p : Payload}
    (h : answered (exec (.bld cat now) s) = some ⟨.ok, .payload (some p)⟩) : ∃ k, frameTypeOf k = cat := by
  by_contra hne
  have hsel : selectBld cat = .refused := by
    rw [selectBld_refused_iff]
    intro hmem
    fin_cases hmem
    · exact hne ⟨.gps, rfl⟩
    · exact hne ⟨.vario, rfl⟩
    · exact hne ⟨.battery, rfl⟩
    · exact hne ⟨.baro, rfl⟩
  rw [exec, execBld, hsel] at h
  cases h

/-! ## The staleness boundary (43_outbound_pack R220) -/

/-- The age of a category `k` ticks after its update, for every `k` that fits `TS_BITS`. -/
theorem age_after {c : Params} {last k : Nat} (hk : k < 2 ^ c.tsBits) :
    (((last + k) % 2 ^ c.tsBits : Nat) - (last : Int)) % 2 ^ c.tsBits = k := by
  have hmod : (((last + k) % 2 ^ c.tsBits : Nat) : Int) = (last + k) % 2 ^ c.tsBits := by push_cast; rfl
  rw [hmod, Int.emod_sub_emod, add_sub_cancel_left]
  exact Int.emod_eq_of_lt (by omega) (by exact_mod_cast hk)

/-! ## Runs that keep the snapshot -/

theorem updRowOf_eq_none {c : Params} {i : Instr} (hu : familyOf i ≠ .unpacker) (hc : familyOf i ≠ .convert) :
    updRowOf c i = none := by
  cases h : updRowOf c i with
  | none => rfl
  | some row => exact absurd (familyOf_of_updRowOf h) (not_or.mpr ⟨hu, hc⟩)

/-- Without an update, a convert and a reset a run keeps the snapshot (43_outbound_pack R217). -/
theorem runTxns_snap {is : List Instr} {s t : State} {answers : List (Option Report)}
    (hkeep : ∀ i ∈ is, familyOf i ≠ .unpacker ∧ familyOf i ≠ .convert ∧ familyOf i ≠ .reset)
    (h : runTxns is s = some (t, answers)) : t.snap = s.snap := by
  induction is generalizing s answers with
  | nil =>
    cases h
    rfl
  | cons i is ih =>
    obtain ⟨s', rest, hexec, hrun⟩ := runTxns_cons_eq_some h
    obtain ⟨hu, hc, hr⟩ := hkeep i List.mem_cons_self
    have hi : i ≠ .reset := fun hi => hr (congrArg familyOf hi)
    have hs' := exec_next_snap_of_updRowOf_none hi (updRowOf_eq_none (c := s.cfg) hu hc) hexec
    exact (ih (fun j hj => hkeep j (List.mem_cons_of_mem i hj)) hrun).trans hs'

/-! ## `CONV` -/

/-- The frame of a category's packed payload. -/
def categoryFrame (c : Params) (snap : Snapshot) (cat : Category) : OutboundFrame :=
  frame (frameTypeOf cat) (payloadBytes c (packPayload snap cat))

@[simp] theorem payloadTag_packPayload (snap : Snapshot) (cat : Category) :
    payloadTag (packPayload snap cat) = frameTypeOf cat := by
  cases cat <;> rfl

section
variable {p : SensorPacket} {now : Timestamp} {s : State}

theorem execConv_of_no_route (hroute : route s.cfg p.dataId = none) :
    execConv p now s = .next ((s.setSnap (update s.cfg p now s.snap)).answer .ok (.converted none)) := by
  rw [execConv_eq, hroute]

theorem execConv_of_fresh {cat : Category} (hroute : route s.cfg p.dataId = some cat)
    (hfresh : fresh s.cfg (update s.cfg p now s.snap) cat now = true) :
    execConv p now s = .next (((s.setSnap (update s.cfg p now s.snap)).transmit
      (categoryFrame s.cfg (update s.cfg p now s.snap) cat)).answer .ok
        (.converted (some (categoryFrame s.cfg (update s.cfg p now s.snap) cat)))) := by
  rw [execConv_eq, hroute]
  exact congrArg Host.Outcome.next (if_pos hfresh)

theorem execConv_of_stale {cat : Category} (hroute : route s.cfg p.dataId = some cat)
    (hstale : ¬ fresh s.cfg (update s.cfg p now s.snap) cat now = true) :
    execConv p now s = .next ((s.setSnap (update s.cfg p now s.snap)).answer .staleData (.converted none)) := by
  rw [execConv_eq, hroute]
  exact congrArg Host.Outcome.next (if_neg hstale)

/-- Right after its update a category is fresh unless the timeout is 0 (43_outbound_pack R219). -/
theorem fresh_update_iff {c : Params} {snap : Snapshot} {cat : Category} (hroute : route c p.dataId = some cat) :
    fresh c (update c p now snap) cat now = true ↔ 1 ≤ c.stalenessTimeout := by
  have hrow : routeRow (selectUpd c p.dataId) = some cat := hroute
  simp [fresh, update, hrow, Nat.one_le_iff_ne_zero, Nat.pos_iff_ne_zero]

end

/-- The third byte of a frame is its type (30_encoding R83). -/
theorem categoryFrame_type (c : Params) (snap : Snapshot) (cat : Category) :
    (categoryFrame c snap cat).bytes[2]? = some (frameTypeOf cat) := rfl

end Sys2Proof.Machine

open Sys2Proof Sys2Proof.Machine

/-- Settles O45: of each category, by the rule of R211, with the fields cut to their low bits. -/
theorem buildAnswersTheFreshPayload : Obligations.BuildAnswersTheFreshPayload := by
  intro s now answer g b tGps tVario tBat tBaro
  have hbuild (cat : Category) {t : State}
      (ht : answer (s.snap.validOf cat) (s.snap.lastUpdateOf cat) (packPayload s.snap cat) = t) :
      exec (.bld (frameTypeOf cat) now) s = .next t ∧ buildAs cat now s = .next t := by
    have hnext : buildAs cat now s = .next t := by rw [buildAs_eq, bldReport_buildOutbound, ← ht]
    exact ⟨(execBld_frameTypeOf cat now s).trans hnext, hnext⟩
  refine ⟨hbuild .gps ?_, hbuild .vario rfl, hbuild .battery ?_, hbuild .baro ?_⟩
  · rw [packPayload, setWidth_16_eq, setWidth_16_eq, setWidth_16_eq]
    rfl
  · rw [packPayload, setWidth_16_eq, setWidth_16_eq]
    rfl
  · rw [packPayload, setWidth_16_eq]
    rfl

/-- Settles O46: the ages are the timeout minus 1 and the timeout, both below `2^TS_BITS`. -/
theorem stalenessBoundary : Obligations.StalenessBoundary := by
  intro s cat hlegal hpos hvalid _ last inTime late
  obtain ⟨-, hfits⟩ := (legal_iff s.cfg).mp hlegal
  have hinTime : (inTime - (last : Int)) % 2 ^ s.cfg.tsBits = (s.cfg.stalenessTimeout - 1 : Nat) := by
    have hsum : inTime = (last + (s.cfg.stalenessTimeout - 1)) % 2 ^ s.cfg.tsBits := by
      rw [← Nat.add_sub_assoc hpos]
    rw [hsum]
    exact age_after (by omega)
  have hlate : (late - (last : Int)) % 2 ^ s.cfg.tsBits = s.cfg.stalenessTimeout := age_after hfits
  rw [answered_exec_bld, answered_exec_bld, bldReport_buildOutbound, bldReport_buildOutbound]
  constructor
  · exact ⟨_, congrArg some (if_pos ⟨hvalid, by rw [hinTime]; omega⟩)⟩
  · exact congrArg some (if_neg fun h => by rw [hlate] at h; omega)

/-- Settles O47: a payload answered is the packed snapshot, which the run keeps. -/
theorem buildIsRepeatable : Obligations.BuildIsRepeatable := by
  intro s t between answers cat now later p q hkeep hrun hp hq
  obtain ⟨k, rfl⟩ := exists_frameTypeOf_of_bld_payload hp
  rw [answered_exec_bld] at hp hq
  obtain ⟨-, rfl⟩ := eq_packPayload_of_bldReport (Option.some.inj hp)
  obtain ⟨-, rfl⟩ := eq_packPayload_of_bldReport (Option.some.inj hq)
  rw [runTxns_snap hkeep hrun]

/-- Settles O49: no route, a category that is not fresh, and a fresh one. -/
theorem convertIsUpdateBuildEncode : Obligations.ConvertIsUpdateBuildEncode := by
  intro s u p now hu
  obtain rfl : (s.setSnap (update s.cfg p now s.snap)).answer .ok .nothing = u := Host.Outcome.next.inj hu
  refine ⟨fun hroute => execConv_of_no_route hroute, fun cat hroute => ⟨fun hbld => ?_, fun q f hbld henc => ?_⟩⟩
  · rw [answered_exec_bld] at hbld
    exact execConv_of_stale hroute (not_fresh_of_bldReport (Option.some.inj hbld))
  · rw [answered_exec_bld] at hbld
    obtain ⟨hfresh, rfl⟩ := eq_packPayload_of_bldReport (Option.some.inj hbld)
    have hf : f = categoryFrame s.cfg (update s.cfg p now s.snap) cat := by
      rw [answered_exec_enc, encReport, if_pos (payloadTag_packPayload _ cat)] at henc
      cases henc
      rfl
    rw [hf]
    exact execConv_of_fresh hroute hfresh

/-- Settles O50: right after its update the category is fresh unless the timeout is 0. -/
theorem convertTransmitsUnlessTheTimeoutIsZero : Obligations.ConvertTransmitsUnlessTheTimeoutIsZero := by
  intro s p now cat hroute
  have hfresh := fresh_update_iff (now := now) (snap := s.snap) hroute
  by_cases hpos : 1 ≤ s.cfg.stalenessTimeout
  · refine ⟨_, execConv_of_fresh hroute (hfresh.mpr hpos), fun _ => ?_, fun h => absurd hpos (by omega)⟩
    exact ⟨_, rfl, frame_payload_ok .., categoryFrame_type .., rfl⟩
  · exact ⟨_, execConv_of_stale hroute (hpos ∘ hfresh.mp), fun h => absurd h hpos, fun _ => ⟨rfl, rfl⟩⟩

end

section
/-! SUPPORT. What the decoder and the rest of the block do not read of each other (10_state R21, R22; 20_memory R58). -/

namespace Sys2Proof.Machine

/-- An outcome with its next state changed. -/
def mapNext (f : State → State) : Result → Result
  | .next s => .next (f s)
  | .fault r => .fault r
  | .refused r => .refused r

theorem mapNext_ite (f : State → State) (key : Prop) [Decidable key] (r r' : Result) :
    mapNext f (if key then r else r') = if key then mapNext f r else mapNext f r' :=
  apply_ite (mapNext f) key r r'

/-! ## Outside the decoder nothing reads the decoder registers -/

section
variable (d : Decoder) (s : State)

theorem encodeAs_setDec (cat : Category) (p : Payload) :
    encodeAs cat p (s.setDec d) = mapNext (·.setDec d) (encodeAs cat p s) := by
  rw [encodeAs_eq, encodeAs_eq]
  split_ifs <;> rfl

theorem execEnc_setDec (ft : Byte) (p : Payload) :
    execEnc ft p (s.setDec d) = mapNext (·.setDec d) (execEnc ft p s) := by
  rw [execEnc_eq, execEnc_eq]
  split_ifs <;> rfl

theorem execBld_setDec (cat : Byte) (now : Timestamp) :
    execBld cat now (s.setDec d) = mapNext (·.setDec d) (execBld cat now s) := by
  unfold execBld
  split <;> rfl

theorem execConv_setDec (p : SensorPacket) (now : Timestamp) :
    execConv p now (s.setDec d) = mapNext (·.setDec d) (execConv p now s) := by
  cases hroute : route s.cfg p.dataId with
  | none =>
    rw [execConv_of_no_route hroute]
    exact execConv_of_no_route (s := s.setDec d) hroute
  | some cat =>
    by_cases hfresh : fresh s.cfg (update s.cfg p now s.snap) cat now = true
    · rw [execConv_of_fresh hroute hfresh]
      exact execConv_of_fresh (s := s.setDec d) hroute hfresh
    · rw [execConv_of_stale hroute hfresh]
      exact execConv_of_stale (s := s.setDec d) hroute hfresh

/-- An instruction of another family than the decoder's, `RESET` left out, does the same under every decoder state. -/
theorem exec_setDec {i : Instr} (hd : familyOf i ≠ .decoder) (hr : familyOf i ≠ .reset) :
    exec i (s.setDec d) = mapNext (·.setDec d) (exec i s) := by
  cases i <;> simp only [familyOf, ne_eq, not_true_eq_false] at hd hr
  case enc => exact execEnc_setDec ..
  case encGps | encVario | encBattery | encBaro => exact encodeAs_setDec ..
  case bld => exact execBld_setDec ..
  case conv => exact execConv_setDec ..
  case encRefused =>
    simp only [exec, execEncRefused, mapNext_ite]
    rfl
  case bldRefused =>
    simp only [exec, execBldRefused, mapNext_ite]
    rfl
  case updOther =>
    simp only [exec, execUpdOther, mapNext_ite]
    rfl
  all_goals rfl

end

/-! ## The decoder does not read the snapshot -/

section
variable (snap : Snapshot) (s : State)

theorem afterStore_setSnap : afterStore (s.setSnap snap) = (afterStore s).setSnap snap := by
  unfold afterStore
  simp only [State.setSnap_cfg, State.setSnap_dec]
  split <;> rfl

theorem storeData_setSnap (b : Byte) : storeData b (s.setSnap snap) = mapNext (·.setSnap snap) (storeData b s) := by
  have hstore := afterStore_setSnap snap (s.setDec (storeByte s.dec b))
  by_cases h : 9#4 ≤ s.dec.idx
  · rw [storeData, storeData, if_pos h]
    exact if_pos h
  · rw [storeData, storeData, if_neg h]
    exact (if_neg h).trans (congrArg _ hstore)

theorem execPb_setSnap (b : Byte) : execPb b (s.setSnap snap) = mapNext (·.setSnap snap) (execPb b s) := by
  have hkey : selectSport ((s.setSnap snap).dec.key b) = selectSport (s.dec.key b) := rfl
  rw [execPb, execPb, hkey]
  cases selectSport (s.dec.key b)
  case dataStorePlain | dataStoreEscaped => exact storeData_setSnap snap s b
  all_goals rfl

/-- A row that does what its `PB` does where it is selected reads no more than the `PB`. -/
theorem whenSelected_setSnap {row : SportRow} {esc : Bool} {b : Byte} {run : State → Result}
    (hrun : ∀ s, selectSport (s.dec.key b) = row → execPb b s = run s) :
    whenSelected row esc b (s.setSnap snap) (run (s.setSnap snap))
      = mapNext (·.setSnap snap) (whenSelected row esc b s (run s)) := by
  by_cases h : selectSport (s.dec.key b) = row ∧ s.dec.esc = esc
  · obtain ⟨hrow, hesc⟩ := h
    rw [whenSelected_selected _ hrow hesc, whenSelected_selected (s := s.setSnap snap) _ hrow hesc, ← hrun s hrow,
      ← hrun (s.setSnap snap) hrow, execPb_setSnap]
  · rw [whenSelected, whenSelected, if_neg h]
    exact if_neg h

/-- `PB` and its rows do the same under every snapshot. -/
theorem exec_setSnap {i : Instr} (hf : familyOf i = .decoder) :
    exec i (s.setSnap snap) = mapNext (·.setSnap snap) (exec i s) := by
  cases i <;> simp only [familyOf, reduceCtorEq] at hf
  case pb b => exact execPb_setSnap snap s b
  case idleStart => exact whenSelected_setSnap snap s (run := runIdleStart) fun s h => by rw [execPb, h]
  case idleDiscard => exact whenSelected_setSnap snap s (run := runIdleDiscard) fun s h => by rw [execPb, h]
  case startRestart => exact whenSelected_setSnap snap s (run := runStartRestart) fun s h => by rw [execPb, h]
  case startEsc => exact whenSelected_setSnap snap s (run := runStartEsc) fun s h => by rw [execPb, h]
  case startFirst _ b => exact whenSelected_setSnap snap s (run := runStartFirst b) fun s h => by rw [execPb, h]
  case dataEsc => exact whenSelected_setSnap snap s (run := runDataEsc) fun s h => by rw [execPb, h]
  case dataStorePlain b =>
    exact whenSelected_setSnap snap s (run := runDataStorePlain b) fun s h => by rw [execPb, h]
  case dataStoreEscaped b =>
    exact whenSelected_setSnap snap s (run := runDataStoreEscaped b) fun s h => by rw [execPb, h]
  case dstateInvalid =>
    exact whenSelected_setSnap snap s (run := fun _ => runDstateInvalid) fun s h => by rw [execPb, h]
  case frameCloseOk =>
    simp only [exec, execFrameCloseOk, mapNext_ite]
    rfl
  case frameCloseBad =>
    simp only [exec, execFrameCloseBad, mapNext_ite]
    rfl

end

end Sys2Proof.Machine

open Sys2Proof Sys2Proof.Machine

/-- Settles O54. -/
theorem decoderStateIsPrivate : Obligations.DecoderStateIsPrivate := by
  intro i s t d hd hr h
  exact (exec_setDec d s hd hr).trans (congrArg (mapNext (·.setDec d)) h)

/-- Settles O55. -/
theorem decoderIgnoresTheSnapshot : Obligations.DecoderIgnoresTheSnapshot := by
  intro i s t snap hf h
  exact (exec_setSnap snap s hf).trans (congrArg (mapNext (·.setSnap snap)) h)

/-- Settles O1. -/
theorem powerOnStateIsTheSpecs : Obligations.PowerOnStateIsTheSpecs :=
  ⟨rfl, rfl, rfl, rfl, rfl, rfl, rfl, rfl⟩

/-- Settles O5: each word is evaluated. -/
theorem writtenOutWordsDecode : Obligations.WrittenOutWordsDecode := by
  unfold Obligations.WrittenOutWordsDecode
  decide

/-- Settles O51. -/
theorem resetTransaction : Obligations.ResetTransaction :=
  fun _ => rfl

end
